-- ==== Sys2Proof/Word.lean ====
section
/-! DEFINITION. The widths of the AW13-LPTO: the word of the control ROM, the byte of the persistent store, the ROM
address and the counters (rules R32 to R36, R70, R90). Every value is an unsigned number with bit 0 the least significant
(rule R15). -/

namespace Sys2Proof

/-- One micro-instruction, one location of the control ROM (rules R70, R90). -/
abbrev Word := BitVec 16

/-- The one location of the persistent store, and the register MODE (rules R33, R49). -/
abbrev Byte := BitVec 8

/-- A word address of the control ROM, and the register PC (rules R32, R70). -/
abbrev RomAddr := BitVec 6

/-- A count of wake ticks, W_MT = W_LT = 16 bits (rules R8, R34, R35). -/
abbrev Ticks := BitVec 16

/-- A count of sense iterations, W_S = 32 bits (rules R10, R36). -/
abbrev SenseCount := BitVec 32

end Sys2Proof
end

