-- ==== Sys2Proof/Syntax.lean ====
section
/-! DEFINITION. The micro-instructions: one constructor of `Instr` for each row of the opcode table (rule R96), the
reserved rows among them, with the operand names of rules R98 to R100. -/

namespace Sys2Proof

/-- The condition codes of BR, field C (rule R98). Codes 10 to 15 are no condition: their words are illegal. -/
inductive Cond where
  | alw | pbe | srf | ssp | smd | lon | iel | ifc | efc | imd
deriving DecidableEq, Repr, Inhabited

/-- The blink pattern classes, field P (rule R99). Codes 5 to 7 are no class: their words are illegal. -/
inductive PatternClass where
  | boot | lonc | loffc | pre | mack
deriving DecidableEq, Repr, Inhabited

/-- The delay selectors, field D (rule R100). Codes 2 and 3 are no selector: their words are illegal. -/
inductive DelaySel where
  | debounce | settle
deriving DecidableEq, Repr, Inhabited

/-- The micro-instructions (rule R96). A reserved row carries the eleven bits below its opcode, which rule R96 leaves
unconstrained, because the illegal-word fault records the whole word (rule R289). -/
inductive Instr where
  /-- NOP, rule R228. -/
  | nop
  /-- BR, rule R229: negate bit N, condition C, absolute target T. -/
  | br (n : Bool) (c : Cond) (t : RomAddr)
  /-- NVMLD, rule R141. -/
  | nvmld
  /-- NVMST, rule R143. -/
  | nvmst
  /-- CAL, rule R125. -/
  | cal
  /-- SENSE, rule R129. -/
  | sense
  /-- MTINC, rule R197. -/
  | mtinc
  /-- MTCLR, rule R199. -/
  | mtclr
  /-- MTCLAMP, rule R201. -/
  | mtclamp
  /-- LTINC, rule R203. -/
  | ltinc
  /-- LTCLR, rule R206. -/
  | ltclr
  /-- MODEADV, rule R183. -/
  | modeadv
  /-- SAMPLE, rule R178. -/
  | sample
  /-- BLINK, rule R156: pattern class P, count source S, immediate count K. -/
  | blink (p : PatternClass) (s : Bool) (k : BitVec 7)
  /-- PULSE, rule R161. -/
  | pulse
  /-- DELAY, rule R163. -/
  | delay (d : DelaySel)
  /-- EI, rule R232. -/
  | ei
  /-- DI, rule R233. -/
  | di
  /-- SRFSET, rule R209. -/
  | srfset
  /-- PBECLR, rule R181. -/
  | pbeclr
  /-- SLEEP, rule R238. -/
  | sleep
  /-- Opcode 0x15, illegal (rules R101, R289). -/
  | reserved15 (low : BitVec 11)
  /-- Opcode 0x16, illegal (rules R101, R289). -/
  | reserved16 (low : BitVec 11)
  /-- Opcode 0x17, illegal (rules R101, R289). -/
  | reserved17 (low : BitVec 11)
  /-- Opcode 0x18, illegal (rules R101, R289). -/
  | reserved18 (low : BitVec 11)
  /-- Opcode 0x19, illegal (rules R101, R289). -/
  | reserved19 (low : BitVec 11)
  /-- Opcode 0x1A, illegal (rules R101, R289). -/
  | reserved1A (low : BitVec 11)
  /-- Opcode 0x1B, illegal (rules R101, R289). -/
  | reserved1B (low : BitVec 11)
  /-- Opcode 0x1C, illegal (rules R101, R289). -/
  | reserved1C (low : BitVec 11)
  /-- Opcode 0x1D, illegal (rules R101, R289). -/
  | reserved1D (low : BitVec 11)
  /-- Opcode 0x1E, illegal (rules R101, R289). -/
  | reserved1E (low : BitVec 11)
  /-- Opcode 0x1F, illegal (rules R101, R289). -/
  | reserved1F (low : BitVec 11)
deriving DecidableEq, Repr, Inhabited

end Sys2Proof
end

