-- ==== Sys2Proof/Config.lean ====
section
/-! DEFINITION. The configuration record CFG (rules R7 to R14) and the free values of the model. Every parameter is fixed when
the block is built and is not state of the spec (rule R59). A record that breaks a constraint is no configuration (rule R14),
so `Config` pairs the parameters with the proof that they meet the constraints. -/

namespace Sys2Proof

/-- The operating profile switch PROFILE (rule R9). -/
inductive Profile where
  | p7 | p13
deriving DecidableEq, Repr, Inhabited

/-- The number of selectable modes, MODE_COUNT - START_MODE (rule R9). -/
def Profile.size : Profile → Nat
  | .p7 => 7
  | .p13 => 13

/-- An interval policy, a value of MODE_POLICY (rules R9, R207). -/
inductive Policy where
  | none | a | b | c
deriving DecidableEq, Repr, Inhabited

/-- The on and off time of one blink (rules R11, R157). -/
structure BlinkTiming where
  on : Nat
  off : Nat
deriving DecidableEq, Repr, Inhabited

/-- The logic levels of the ports btn_spray_i and btn_mode_i at one instant (rules R58, R177). -/
structure ButtonPins where
  spray : Bool
  mode : Bool
deriving DecidableEq, Repr, Inhabited

/-- The parameters of rules R8 to R11. W_MT, W_LT and W_S are the widths of `Ticks` and `SenseCount`, MAX_INT is derived
(rule R8), and ERASED is a constant (rule R13). -/
structure Params where
  /-- IT[0], the short interval (rule R8). -/
  itShort : Ticks
  /-- IT[1], the medium interval (rule R8). -/
  itMedium : Ticks
  /-- IT[2], the long interval (rule R8). -/
  itLong : Ticks
  /-- MAX_LIGHT (rule R8). -/
  maxLight : Ticks
  /-- MIN_LIGHT_ON (rule R8). -/
  minLightOn : Ticks
  /-- GUARD (rule R8). -/
  guardTicks : Ticks
  /-- PROFILE (rule R9). -/
  profile : Profile
  /-- START_MODE (rule R9). -/
  startMode : Nat
  /-- MODE_COUNT (rule R9). -/
  modeCount : Nat
  /-- DEFAULT_MODE (rule R9). -/
  defaultMode : Nat
  /-- TIER_OFFSET (rule R9). -/
  tierOffset : Nat
  /-- MODE_POLICY, its entry for mode m at index m - START_MODE (rule R9). -/
  modePolicy : List Policy
  /-- MODE_LR, its entry for mode m at index m - START_MODE (rule R9). -/
  modeLr : List Bool
  /-- CAL_MARGIN (rule R10). -/
  calMargin : Nat := 50000
  /-- N_PRE, 0..127 (rule R11). -/
  nPre : BitVec 7
  /-- N_BOOT, 0..127 (rule R11). -/
  nBoot : BitVec 7
  /-- BTN_ACTIVE_LOW (rules R11, R58). -/
  btnActiveLow : Bool
  /-- NVM_ENDURANCE (rule R11). -/
  nvmEndurance : Nat
  /-- PULSE_T (rule R11). -/
  pulseT : Nat
  /-- DEBOUNCE_T (rule R11). -/
  debounceT : Nat
  /-- SETTLE_T (rule R11). -/
  settleT : Nat
  /-- TICK_PERIOD (rule R11). -/
  tickPeriod : Nat
  /-- CHARGE_T (rule R11). -/
  chargeT : Nat
  /-- T_CNT (rule R11). -/
  tCnt : Nat
  /-- NVM_WRITE_T (rule R11). -/
  nvmWriteT : Nat
  /-- T_ON[BOOT], T_OFF[BOOT] (rule R11). -/
  bootBlink : BlinkTiming
  /-- T_ON[LONC], T_OFF[LONC] (rule R11). -/
  loncBlink : BlinkTiming
  /-- T_ON[LOFFC], T_OFF[LOFFC] (rule R11). -/
  loffcBlink : BlinkTiming
  /-- T_ON[PRE], T_OFF[PRE] (rule R11). -/
  preBlink : BlinkTiming
  /-- T_ON[MACK], T_OFF[MACK] (rule R11). -/
  mackBlink : BlinkTiming
deriving DecidableEq, Repr, Inhabited

/-- TIER_OFFSET is at most every mode that has an interval policy, for the catalogue `ps` of the modes from `m` on (rules R9,
R208). -/
def tierOffsetFits (offset : Nat) : Nat → List Policy → Bool
  | _, [] => true
  | m, p :: ps => (p == .none || decide (offset ≤ m)) && tierOffsetFits offset (m + 1) ps

/-- The constraints of rule R9; those of rules R8, R10 and R11 are the widths of the fields. -/
def Params.valid (p : Params) : Bool :=
  decide (p.modeCount = p.startMode + p.profile.size) && decide (p.modeCount ≤ 255) &&
  decide (p.startMode ≤ p.defaultMode) && decide (p.defaultMode < p.modeCount) &&
  decide (p.modePolicy.length = p.profile.size) && decide (p.modeLr.length = p.profile.size) &&
  tierOffsetFits p.tierOffset p.startMode p.modePolicy

/-- A configuration of the block: parameters that meet the constraints (rule R14). -/
structure Config extends Params where
  ok : toParams.valid = true
deriving DecidableEq, Repr

/-! ### Free values: nothing in Lean can evaluate them or prove a value of them -/

/-- The parameters the block of `State.reset` was built with (rules R8 to R11: OPEN). -/
opaque Config.openParams : Params

/-- The discharge time of the n-th free draw (rules R16, R122). -/
opaque Config.freeDischarge : Nat → Nat

/-- The button levels of the n-th free draw (rules R16, R177). -/
opaque Config.freeButtons : Nat → ButtonPins

/-- The byte of the n-th free draw (rule R16). -/
opaque Config.freeByte : Nat → Byte

/-- MODE_POLICY of a mode outside the mode range, where rule R207 gives none. DESIGN CHOICE, safe: log 12. -/
opaque Config.freePolicy : Byte → Policy

/-- MODE_LR of a mode outside the mode range, where rule R207 gives none. DESIGN CHOICE, safe: log 12. -/
opaque Config.freeLightReactive : Byte → Bool

/-- IV of a mode outside the mode range, where rule R207 gives none. DESIGN CHOICE, safe: log 12. -/
opaque Config.freeInterval : Byte → Ticks

/-- The mode position of a mode below START_MODE, where rule R159 would be negative. DESIGN CHOICE, safe: log 13. -/
opaque Config.freeModePosition : Byte → Nat

/-! ### The built configuration -/

/-- Parameters that meet the constraints, so that a configuration exists: the smallest seven-mode block, no interval mode. It
stands only where `Config.openParams` breaks a constraint, and nothing rests on it. DESIGN CHOICE, safe: log 2. -/
def Params.smallest : Params where
  itShort := 0
  itMedium := 0
  itLong := 0
  maxLight := 0
  minLightOn := 0
  guardTicks := 0
  profile := .p7
  startMode := 0
  modeCount := 7
  defaultMode := 0
  tierOffset := 0
  modePolicy := [.none, .none, .none, .none, .none, .none, .none]
  modeLr := [false, false, false, false, false, false, false]
  nPre := 0
  nBoot := 0
  btnActiveLow := false
  nvmEndurance := 0
  pulseT := 0
  debounceT := 0
  settleT := 0
  tickPeriod := 0
  chargeT := 0
  tCnt := 0
  nvmWriteT := 0
  bootBlink := ⟨0, 0⟩
  loncBlink := ⟨0, 0⟩
  loffcBlink := ⟨0, 0⟩
  preBlink := ⟨0, 0⟩
  mackBlink := ⟨0, 0⟩

/-- The configuration of the block of `State.reset`: every parameter is open, only the constraints can be proved of it.
DESIGN CHOICE, safe: log 2. -/
def Config.built : Config :=
  if h : Config.openParams.valid = true then { Config.openParams with ok := h }
  else { Params.smallest with ok := by decide }

end Sys2Proof
end

