-- ==== Sys2Proof/WellFormed.lean ====
section
/-! DEFINITION. Which terms of `Instr` stand for a row of the opcode table, and which of those are legal. The operand types
already exclude the condition codes, pattern classes and delay selectors that rule R101 calls illegal; the one check left is
the pairing of BLINK's S and K fields. -/

namespace Sys2Proof

/-- The field check of rule R97 that the operand types do not make: BLINK with S = 1 has K = 0. -/
def Instr.wellFormed : Instr → Bool
  | .blink _ s k => !(s && k != 0)
  | .nop | .br _ _ _ | .nvmld | .nvmst | .cal | .sense | .mtinc | .mtclr | .mtclamp | .ltinc | .ltclr
  | .modeadv | .sample | .pulse | .delay _ | .ei | .di | .srfset | .pbeclr | .sleep
  | .reserved15 _ | .reserved16 _ | .reserved17 _ | .reserved18 _ | .reserved19 _ | .reserved1A _
  | .reserved1B _ | .reserved1C _ | .reserved1D _ | .reserved1E _ | .reserved1F _ => true

/-- The rows of the opcode table that raise the illegal-word fault whatever their low bits (rules R96, R101 item 1). -/
def Instr.reservedRow : Instr → Bool
  | .reserved15 _ | .reserved16 _ | .reserved17 _ | .reserved18 _ | .reserved19 _ | .reserved1A _
  | .reserved1B _ | .reserved1C _ | .reserved1D _ | .reserved1E _ | .reserved1F _ => true
  | .nop | .br _ _ _ | .nvmld | .nvmst | .cal | .sense | .mtinc | .mtclr | .mtclamp | .ltinc | .ltclr
  | .modeadv | .sample | .blink _ _ _ | .pulse | .delay _ | .ei | .di | .srfset | .pbeclr | .sleep => false

/-- A legal instruction: what `decode` of rule R97 gives for a word that is not illegal. -/
def Instr.legal (i : Instr) : Bool := i.wellFormed && !i.reservedRow

end Sys2Proof
end

