-- ==== Sys2Proof/Decode.lean ====
section
/-! DEFINITION. The decoder of rule R97 and the encoder of rules R91 to R96. The decoder is total on words: it gives an
instruction, or rejects the word under a name that says which item of rule R101 applies. A word of a reserved opcode decodes
to its row of the opcode table, whose meaning is the illegal-word fault (log 10). -/

namespace Sys2Proof

/-- Why a word of a legal opcode is illegal: the items 2 to 5 of rule R101. -/
inductive Rejection where
  /-- Item 2: a format-N opcode with one of bits 10..0 set. -/
  | reservedBitsSet
  /-- Item 3: BR with C = 10..15. -/
  | noSuchCondition
  /-- Item 4: BLINK with P = 5..7. -/
  | noSuchPattern
  /-- Item 4: BLINK with S = 1 and K not zero. -/
  | countWithModeSource
  /-- Item 5: DELAY with one of bits 10..2 set. -/
  | delayBitsSet
  /-- Item 5: DELAY with D = 2 or 3. -/
  | noSuchDelay
deriving DecidableEq, Repr

/-! ### Field codes -/

/-- The code of a condition (rule R98). -/
def Cond.code : Cond → BitVec 4
  | .alw => 0 | .pbe => 1 | .srf => 2 | .ssp => 3 | .smd => 4
  | .lon => 5 | .iel => 6 | .ifc => 7 | .efc => 8 | .imd => 9

/-- The condition of a code, none for the reserved codes 10..15 (rule R98). -/
def Cond.ofCode (c : BitVec 4) : Option Cond :=
  match c.toNat with
  | 0 => some .alw | 1 => some .pbe | 2 => some .srf | 3 => some .ssp | 4 => some .smd
  | 5 => some .lon | 6 => some .iel | 7 => some .ifc | 8 => some .efc | 9 => some .imd
  | _ => none

/-- The code of a pattern class (rule R99). -/
def PatternClass.code : PatternClass → BitVec 3
  | .boot => 0 | .lonc => 1 | .loffc => 2 | .pre => 3 | .mack => 4

/-- The pattern class of a code, none for the reserved codes 5..7 (rule R99). -/
def PatternClass.ofCode (p : BitVec 3) : Option PatternClass :=
  match p.toNat with
  | 0 => some .boot | 1 => some .lonc | 2 => some .loffc | 3 => some .pre | 4 => some .mack
  | _ => none

/-- The code of a delay selector (rule R100). -/
def DelaySel.code : DelaySel → BitVec 2
  | .debounce => 0 | .settle => 1

/-- The delay selector of a code, none for the reserved codes 2 and 3 (rule R100). -/
def DelaySel.ofCode (d : BitVec 2) : Option DelaySel :=
  match d.toNat with
  | 0 => some .debounce | 1 => some .settle
  | _ => none

/-! ### Bit fields (rules R91 to R95) -/

/-- The opcode, bits 15..11 (rule R90). -/
def opcodeField (w : Word) : BitVec 5 := w.extractLsb' 11 5

/-- Bits 10..0, the reserved bits of format N (rule R91). -/
def lowField (w : Word) : BitVec 11 := w.extractLsb' 0 11

/-- N, bit 10 of format B (rule R92). -/
def negateField (w : Word) : Bool := w.getLsbD 10

/-- C, bits 9..6 of format B (rule R92). -/
def conditionField (w : Word) : BitVec 4 := w.extractLsb' 6 4

/-- T, bits 5..0 of format B (rule R92). -/
def targetField (w : Word) : RomAddr := w.extractLsb' 0 6

/-- P, bits 10..8 of format K (rule R93). -/
def patternField (w : Word) : BitVec 3 := w.extractLsb' 8 3

/-- S, bit 7 of format K (rule R93). -/
def sourceField (w : Word) : Bool := w.getLsbD 7

/-- K, bits 6..0 of format K (rule R93). -/
def countField (w : Word) : BitVec 7 := w.extractLsb' 0 7

/-- Bits 10..2, the reserved bits of format D (rule R94). -/
def delayReservedField (w : Word) : BitVec 9 := w.extractLsb' 2 9

/-- D, bits 1..0 of format D (rule R94). -/
def delayField (w : Word) : BitVec 2 := w.extractLsb' 0 2

/-! ### Decoding (rule R97) -/

/-- A format-N word stands for its opcode's mnemonic when bits 10..0 are zero (rules R91, R97). -/
def decodeN (w : Word) (i : Instr) : Except Rejection Instr :=
  if lowField w = 0 then .ok i else .error .reservedBitsSet

/-- Format B (rules R92, R97). -/
def decodeB (w : Word) : Except Rejection Instr :=
  match Cond.ofCode (conditionField w) with
  | some c => .ok (.br (negateField w) c (targetField w))
  | none => .error .noSuchCondition

/-- Format K (rules R93, R97). -/
def decodeK (w : Word) : Except Rejection Instr :=
  match PatternClass.ofCode (patternField w) with
  | none => .error .noSuchPattern
  | some p =>
    if sourceField w && countField w != 0 then .error .countWithModeSource
    else .ok (.blink p (sourceField w) (countField w))

/-- Format D (rules R94, R97). -/
def decodeD (w : Word) : Except Rejection Instr :=
  if delayReservedField w = 0 then
    match DelaySel.ofCode (delayField w) with
    | some d => .ok (.delay d)
    | none => .error .noSuchDelay
  else .error .delayBitsSet

/-- The decoder, one arm for each opcode of rule R96. -/
def decode (w : Word) : Except Rejection Instr :=
  match (opcodeField w).toNat with
  | 0x00 => decodeN w .nop
  | 0x01 => decodeB w
  | 0x02 => decodeN w .nvmld
  | 0x03 => decodeN w .nvmst
  | 0x04 => decodeN w .cal
  | 0x05 => decodeN w .sense
  | 0x06 => decodeN w .mtinc
  | 0x07 => decodeN w .mtclr
  | 0x08 => decodeN w .mtclamp
  | 0x09 => decodeN w .ltinc
  | 0x0A => decodeN w .ltclr
  | 0x0B => decodeN w .modeadv
  | 0x0C => decodeN w .sample
  | 0x0D => decodeK w
  | 0x0E => decodeN w .pulse
  | 0x0F => decodeD w
  | 0x10 => decodeN w .ei
  | 0x11 => decodeN w .di
  | 0x12 => decodeN w .srfset
  | 0x13 => decodeN w .pbeclr
  | 0x14 => decodeN w .sleep
  | 0x15 => .ok (.reserved15 (lowField w))
  | 0x16 => .ok (.reserved16 (lowField w))
  | 0x17 => .ok (.reserved17 (lowField w))
  | 0x18 => .ok (.reserved18 (lowField w))
  | 0x19 => .ok (.reserved19 (lowField w))
  | 0x1A => .ok (.reserved1A (lowField w))
  | 0x1B => .ok (.reserved1B (lowField w))
  | 0x1C => .ok (.reserved1C (lowField w))
  | 0x1D => .ok (.reserved1D (lowField w))
  | 0x1E => .ok (.reserved1E (lowField w))
  | _ => .ok (.reserved1F (lowField w))

/-- A word is illegal (rule R101): the decoder rejects it, or its opcode is reserved. -/
def illegalWord (w : Word) : Bool :=
  match decode w with
  | .ok i => i.reservedRow
  | .error _ => true

/-- What the decoder reads from an instruction whose bits are `w`, numbered as the opcode table numbers them, of which
`nbits` are given and the rest are 0. Every instruction is one word (rule R90). -/
def decodeTableWord (nbits w : Nat) : Option Instr :=
  (decode (BitVec.ofNat 16 (w % 2 ^ nbits))).toOption

/-! ### Encoding (rules R91 to R96) -/

/-- A word of a reserved opcode (rule R96). -/
def reservedWord (op : BitVec 5) (low : BitVec 11) : Word := op ++ low

/-- The word of an instruction, its fields laid side by side from bit 15 down (rules R91 to R96). -/
def encode : Instr → Word
  | .nop => 0x0000
  | .br n c t => 0x01#5 ++ BitVec.ofBool n ++ c.code ++ t
  | .nvmld => 0x1000
  | .nvmst => 0x1800
  | .cal => 0x2000
  | .sense => 0x2800
  | .mtinc => 0x3000
  | .mtclr => 0x3800
  | .mtclamp => 0x4000
  | .ltinc => 0x4800
  | .ltclr => 0x5000
  | .modeadv => 0x5800
  | .sample => 0x6000
  | .blink p s k => 0x0D#5 ++ p.code ++ BitVec.ofBool s ++ k
  | .pulse => 0x7000
  | .delay d => 0x0F#5 ++ 0#9 ++ d.code
  | .ei => 0x8000
  | .di => 0x8800
  | .srfset => 0x9000
  | .pbeclr => 0x9800
  | .sleep => 0xA000
  | .reserved15 low => reservedWord 0x15 low
  | .reserved16 low => reservedWord 0x16 low
  | .reserved17 low => reservedWord 0x17 low
  | .reserved18 low => reservedWord 0x18 low
  | .reserved19 low => reservedWord 0x19 low
  | .reserved1A low => reservedWord 0x1A low
  | .reserved1B low => reservedWord 0x1B low
  | .reserved1C low => reservedWord 0x1C low
  | .reserved1D low => reservedWord 0x1D low
  | .reserved1E low => reservedWord 0x1E low
  | .reserved1F low => reservedWord 0x1F low

end Sys2Proof
end

