-- ==== Sys2Proof/Machine/State.lean ====
section
/-! DEFINITION. The state of the block (rules R30 to R53, R60), what the model carries beside it (the configuration, the
control ROM and the environment's inputs, which `exec` and `step` have no other argument for), and the state after power-on
reset (rules R320, R321). -/

namespace Sys2Proof.Machine

/-- The one fault of the block, with the value it records (rules R289, R290). -/
inductive Fault where
  /-- Cause code 0, ILLEGAL: an illegal word `w` at `pc`. Raised by `State.raiseIllegal`, which TAKES it as rule R289
  describes: a next state that records this value in the trace and is locked. No step answers `Outcome.fault` with it, so
  nothing is left out: safe. -/
  | illegal (pc : RomAddr) (w : Word)
deriving DecidableEq, Repr

/-- The cause code of a fault (rule R290). -/
def Fault.code : Fault → Nat
  | .illegal _ _ => 0

/-- Why the model gives no answer. -/
inductive Refusal where
  /-- An arm of `exec` without a meaning. No arm is left without one, so nobody raises it: safe. -/
  | notModelled (mnemonic : String)
  /-- Parameters that break a constraint of rules R8 to R11 are no configuration and have no runs (rule R14). Raised by
  `State.build`, never by a step: safe. -/
  | configurationRefused
deriving DecidableEq, Repr

/-- An output event (rule R60). -/
inductive Event where
  /-- `Blink(p, n)`: n pulses on ind_o with the timing of class p. -/
  | blink (p : PatternClass) (n : Nat)
  /-- `Pulse`: one pulse of width PULSE_T on act_o. -/
  | pulse
  /-- `NvmWrite(v)`: one write of byte v to the store. -/
  | nvmWrite (v : Byte)
  /-- `Fault(pc, w)`: the illegal-word fault. -/
  | fault (f : Fault)
  /-- `Reset`: power-on reset. -/
  | reset
deriving DecidableEq, Repr

/-- The output pins, register 5, one field for each bit (rule R48). -/
structure Pins where
  /-- Bit 0: the actuator line, true when on. -/
  act : Bool
  /-- Bit 1: the indicator line, true when lit. -/
  ind : Bool
  /-- Bit 2: true when the sense line is an output. -/
  senseOe : Bool
  /-- Bit 3: the level driven on the sense line when it is an output. -/
  senseO : Bool
deriving DecidableEq, Repr

/-- The levels of the pins after reset and between instructions (rule R48). -/
def Pins.idle : Pins := { act := false, ind := false, senseOe := true, senseO := false }

/-- Who makes the next step (rule R19). -/
inductive Turn where
  /-- USEQ: one instruction, one service, or nothing (rule R226). -/
  | useq
  /-- One TICK arrival (rule R281). -/
  | tick
  /-- One PCHG arrival (rule R281). -/
  | pchg
  /-- Power-on reset applied between two steps (rule R320). -/
  | powerOnReset
  /-- Power fails, or reset is applied, during the step USEQ is about to make, and power-on reset follows (rules R145, R299,
  R320). -/
  | powerLoss
deriving DecidableEq, Repr

/-- What the environment does: the model's own field, not state of the spec. DESIGN CHOICE, unsafe only for the one run from
`State.reset`: logs 6 and 7. -/
structure Environment where
  /-- Who moves next, first entry first. When the list has run out it is USEQ. -/
  turns : List Turn
  /-- The results of the next draws `Draw_T()` (rule R122). When the list has run out the draw is a free value. -/
  discharge : List Nat
  /-- The port levels behind the next draws `Draw_Btn()` (rule R177). When the list has run out the draw is a free value. -/
  buttons : List ButtonPins
  /-- The results of the next draws `Draw_Byte()` (rule R16). When the list has run out the draw is a free value. -/
  bytes : List Byte
  /-- How many free values have been drawn: the argument of the next one. -/
  drawn : Nat
deriving DecidableEq, Repr

/-- The words of the control ROM that differ from the image of rule R250, as pairs of a word address and a word, addresses
strictly rising (log 4). -/
abbrev Memory := List (Nat × Word)

/-- The state of the block (rule R30). -/
structure State where
  /-- Register 0, OperatingMode (rule R33). -/
  mode : Byte
  /-- Register 1, MainTimer (rule R34). -/
  mt : Ticks
  /-- Register 2, LightTimer (rule R35). -/
  lt : Ticks
  /-- Register 3, LightThreshold (rule R36). -/
  thr : SenseCount
  /-- STATUS bit 0, PendingButtonEvent (rule R38). -/
  pbe : Bool
  /-- STATUS bit 1, SleepReadyFlag (rule R39). -/
  srf : Bool
  /-- STATUS bit 2, global interrupt enable (rule R40). -/
  ie : Bool
  /-- STATUS bit 3, the tick interrupt's pending latch (rule R41). -/
  tpend : Bool
  /-- STATUS bit 4, the pin-change interrupt's pending latch (rule R42). -/
  ppend : Bool
  /-- STATUS bit 5, the sampled spray-request level (rule R43). -/
  ssp : Bool
  /-- STATUS bit 6, the sampled mode-cycle level (rule R44). -/
  smd : Bool
  /-- STATUS bit 7, the result of the last SENSE (rule R45). -/
  lon : Bool
  /-- STATUS bit 8, low-power sleep (rule R46). -/
  sleeping : Bool
  /-- STATUS bit 9, locked by the illegal-word fault (rule R47). -/
  locked : Bool
  /-- The word address of the next micro-instruction (rule R32). -/
  pc : RomAddr
  /-- Register 5, the output pins (rule R48). -/
  pins : Pins
  /-- The byte of the external persistent store (rule R49). -/
  nvm : Byte
  /-- How many writes the store has accepted (rule R50). -/
  nvmWrites : Nat
  /-- The observation trace, oldest event first (rule R60). -/
  trace : List Event
  /-- The control ROM, where it differs from rule R250's image: no step writes it (rule R71, log 4). -/
  rom : Memory
  /-- The configuration: no step writes it (rule R59, log 1). -/
  cfg : Config
  /-- The environment's inputs (rules R16, R19, logs 6 and 7). -/
  env : Environment
deriving DecidableEq, Repr

/-- Every register and flag at its reset value (rule R321), over what a reset keeps: the store, the trace, and the model's
own fields. -/
def State.powerOn (cfg : Config) (rom : Memory) (env : Environment) (nvm : Byte) (nvmWrites : Nat) (trace : List Event) :
    State where
  mode := BitVec.ofNat 8 cfg.defaultMode
  mt := 0
  lt := 0
  thr := 0
  pbe := false
  srf := true
  ie := false
  tpend := false
  ppend := false
  ssp := false
  smd := false
  lon := false
  sleeping := false
  locked := false
  pc := 0
  pins := .idle
  nvm := nvm
  nvmWrites := nvmWrites
  trace := trace
  rom := rom
  cfg := cfg
  env := env

/-- The erased value of the store, ERASED (rule R13). -/
def erased : Byte := 0xFF

/-- An environment with nothing to supply and nothing to do: USEQ moves, every draw is free. -/
def Environment.quiet : Environment := { turns := [], discharge := [], buttons := [], bytes := [], drawn := 0 }

/-- The block of a configuration after its first power-on reset: a store never written holds ERASED and has accepted no write
(rules R49, R321), the trace holds the one event of that reset (rule R320). -/
def State.firstPowerOn (cfg : Config) : State := .powerOn cfg [] .quiet erased 0 [.reset]

/-- The machine right after reset. DESIGN CHOICE (the store never written, a quiet environment, the built configuration
open): logs 2, 6, 7 and 17. -/
def State.reset : State := .firstPowerOn .built

end Sys2Proof.Machine
end

