-- ==== Sys2Proof/Machine/Ops.lean ====
section
/-! DEFINITION. The operations the instructions share: counting without wrap, the control ROM, the environment's draws, the
persistent store, the interrupts, the illegal-word fault, power-on reset and power loss. -/

namespace Sys2Proof.Machine

/-! ### Counting (rules R16, R196) -/

/-- `sat_inc(v, M)`, computed without wrap. -/
def satInc (v M : Nat) : Nat := if v + 1 > M then M else v + 1

/-- `sat_add(a, b, M)`, computed without wrap. -/
def satAdd (a b M : Nat) : Nat := if a + b > M then M else a + b

/-- SENSE_MAX (rule R10). -/
def senseMax : Nat := 2 ^ 32 - 1

/-- MAX_INT, the largest interval-table value (rules R8, R198). -/
def maxInt (c : Config) : Nat := max c.itShort.toNat (max c.itMedium.toNat c.itLong.toNat)

/-! ### The control ROM (rules R70 to R72, R250) -/

/-- The boot routine, words 0x00 to 0x03 (rules R250, R251). -/
def romBoot (c : Config) : List Word := [0x1000, 0x2000, 0x6800 + c.nBoot.setWidth 16, 0x8000]

/-- The loop head and the button pass, words 0x04 to 0x16 (rules R250, R252 to R255). -/
def romPass (c : Config) : List Word :=
  [0x0C57, 0x7800, 0x6000, 0x0CCD,
   0x6B00 + c.nPre.setWidth 16, 0x8800, 0x7000, 0x8000, 0x3800, 0x0D16,
   0x8800, 0x5800, 0x1800, 0x6C80, 0x3800, 0x5000, 0x7801, 0x8000, 0x9800]

/-- Steps 1 to 4 of the tick routine, words 0x17 to 0x23 (rules R250, R257, R258). -/
def romInterval (c : Config) : List Word :=
  [0x08B2, 0x3000, 0x2800, 0x0E64, 0x099E, 0x4000, 0x0824, 0x0DE4,
   0x6B00 + c.nPre.setWidth 16, 0x8800, 0x7000, 0x8000, 0x3800]

/-- Steps 5 and 6 of the tick routine, words 0x24 to 0x31 (rules R250, R259, R260). -/
def romEdge (c : Config) : List Word :=
  [0x0D68, 0x6902, 0x4800, 0x0831, 0x0A2B, 0x6A01, 0x0830,
   0x6B00 + c.nPre.setWidth 16, 0x8800, 0x7000, 0x8000, 0x3800, 0x5000, 0x9000]

/-- Sleep, the jump back and the unused words, 0x32 to 0x3F (rules R250, R261, R263). -/
def romTail : List Word := [0xA000, 0x0804, 0, 0, 0, 0, 0, 0, 0, 0, 0, 0, 0, 0]

/-- The 64 words of the hardware's ROM (rule R250). -/
def romImage (c : Config) : List Word := romBoot c ++ romPass c ++ romInterval c ++ romEdge c ++ romTail

/-- The word of the hardware's ROM at a word address: what an unlisted address of `Memory` reads as. Every address below 64
is in the image. -/
def romWord (c : Config) (a : Nat) : Word := (romImage c).getD a 0

/-- The listed word at an address, none where the address is not listed. -/
def Memory.find (a : Nat) : Memory → Option Word
  | [] => none
  | (b, x) :: m => if a = b then some x else Memory.find a m

/-- `RomFetch` on the listed words of a ROM (rule R72): no side effect. -/
def Memory.read (c : Config) (m : Memory) (a : RomAddr) : Word := (Memory.find a.toNat m).getD (romWord c a.toNat)

/-- List a word at an address (`some`), or no word (`none`), keeping the addresses rising. -/
def Memory.put (a : Nat) (v : Option Word) : Memory → Memory
  | [] => v.toList.map fun w => (a, w)
  | (b, x) :: m =>
    if a < b then (v.toList.map fun w => (a, w)) ++ (b, x) :: m
    else if a = b then (v.toList.map fun w => (a, w)) ++ m
    else (b, x) :: Memory.put a v m

/-- Store a word in the ROM, keeping the canonical form. No step does it (rule R71); `State.withFetchWord` does, for a test of
one instruction (rule R72). -/
def Memory.write (c : Config) (m : Memory) (a : RomAddr) (w : Word) : Memory :=
  Memory.put a.toNat (if w = romWord c a.toNat then none else some w) m

/-- The canonical form: addresses strictly rising and inside the ROM, no word equal to the image's (log 4). -/
abbrev Memory.wf (c : Config) (m : Memory) : Prop :=
  List.Pairwise (fun x y => x.1 < y.1) m ∧ ∀ e ∈ m, e.1 < 64 ∧ e.2 ≠ romWord c e.1

/-- `RomFetch(pc)` (rule R72). -/
def State.romFetch (s : State) (a : RomAddr) : Word := s.rom.read s.cfg a

/-! ### The program counter and the trace -/

/-- `PC <- (PC + 1) mod 64` (rules R32, R226). -/
def State.advance (s : State) : State := { s with pc := s.pc + 1 }

/-- `PC <- target` (rules R16, R229). -/
def State.jump (s : State) (t : RomAddr) : State := { s with pc := t }

/-- `Emit(e)` (rules R16, R60). -/
def State.emit (s : State) (e : Event) : State := { s with trace := s.trace ++ [e] }

/-! ### Draws (rule R16): the environment's inputs, each free -/

/-- The discharge time that the next `Draw_T()` gives (rule R122). -/
def State.dischargeDraw (s : State) : Nat := s.env.discharge.head?.getD (Config.freeDischarge s.env.drawn)

/-- The state after a `Draw_T()`: the environment has one draw fewer, or one more free value is used. -/
def State.afterDischarge (s : State) : State :=
  match s.env.discharge with
  | [] => { s with env := { s.env with drawn := s.env.drawn + 1 } }
  | _ :: ts => { s with env := { s.env with discharge := ts } }

/-- The port levels behind the next `Draw_Btn()`. -/
def State.buttonPinsDraw (s : State) : ButtonPins := s.env.buttons.head?.getD (Config.freeButtons s.env.drawn)

/-- The asserted level of a button: level 1 when BTN_ACTIVE_LOW = 0, level 0 when it is 1 (rule R58). -/
def assertedLevel (c : Config) (level : Bool) : Bool := level != c.btnActiveLow

/-- The pair (spray, mode) of asserted levels that the next `Draw_Btn()` gives (rule R177). -/
def State.buttonsDraw (s : State) : Bool × Bool :=
  (assertedLevel s.cfg s.buttonPinsDraw.spray, assertedLevel s.cfg s.buttonPinsDraw.mode)

/-- The state after a `Draw_Btn()`. -/
def State.afterButtons (s : State) : State :=
  match s.env.buttons with
  | [] => { s with env := { s.env with drawn := s.env.drawn + 1 } }
  | _ :: bs => { s with env := { s.env with buttons := bs } }

/-- The byte that the next `Draw_Byte()` gives (rule R16). -/
def State.byteDraw (s : State) : Byte := s.env.bytes.head?.getD (Config.freeByte s.env.drawn)

/-- The state after a `Draw_Byte()`. -/
def State.afterByte (s : State) : State :=
  match s.env.bytes with
  | [] => { s with env := { s.env with drawn := s.env.drawn + 1 } }
  | _ :: bs => { s with env := { s.env with bytes := bs } }

/-! ### The persistent store (rules R74, R75, R143 to R146) -/

/-- The store has passed its endurance (rule R146). -/
def State.nvmWorn (s : State) : Bool := decide (s.nvmWrites > s.cfg.nvmEndurance)

/-- The byte `NvmRead()` returns (rules R75, R146). -/
def State.nvmReadByte (s : State) : Byte := if s.nvmWorn then s.byteDraw else s.nvm

/-- The state after an `NvmRead()`: the read of a store past its endurance has used a draw. -/
def State.afterNvmRead (s : State) : State := if s.nvmWorn then s.afterByte else s

/-- The byte an NVMST leaves in the store: `v`, or any byte when IE = 1 (rule R144) or past the endurance (rule R146). -/
def State.nvmStoredByte (s : State) (v : Byte) : Byte := if s.ie || s.nvmWorn then s.byteDraw else v

/-- One write of `v` to the store, with its write cycle (rules R79, R143). -/
def State.nvmStore (s : State) (v : Byte) : State :=
  { (if s.ie || s.nvmWorn then s.afterByte else s) with nvm := s.nvmStoredByte v, nvmWrites := s.nvmWrites + 1 }

/-- An NVMST that power loss cuts: the event and the write cycle happen, the byte is any (rule R145, decision D26). -/
def State.cutWrite (s : State) : State :=
  { (s.emit (.nvmWrite s.mode)).afterByte with nvm := s.byteDraw, nvmWrites := s.nvmWrites + 1 }

/-! ### Waveforms (rules R121, R157, R161): the levels of the pins within an instruction, each with its duration -/

/-- Levels of the pins held for a duration. -/
structure Phase where
  pins : Pins
  duration : Nat
deriving DecidableEq, Repr

/-- The levels a waveform leaves, which are those before it when it has no phase. -/
def endPins (p : Pins) (ws : List Phase) : Pins := (ws.getLast?.map Phase.pins).getD p

/-- The blink timing of a pattern class (rules R11, R157). -/
def blinkTiming (c : Config) : PatternClass → BlinkTiming
  | .boot => c.bootBlink
  | .lonc => c.loncBlink
  | .loffc => c.loffcBlink
  | .pre => c.preBlink
  | .mack => c.mackBlink

/-- One measurement that counts `r` iterations: charge, release, count, restore (rule R121). -/
def sensePhases (c : Config) (p : Pins) (r : Nat) : List Phase :=
  [⟨{ p with senseOe := true, senseO := true }, c.chargeT⟩,
   ⟨{ p with senseOe := false, senseO := true }, 0⟩,
   ⟨{ p with senseOe := false, senseO := true }, r * c.tCnt⟩,
   ⟨{ p with senseOe := true, senseO := false }, 0⟩]

/-- `n` blinks of a class back to back (rule R157). -/
def blinkPhases (c : Config) (k : PatternClass) (p : Pins) (n : Nat) : List Phase :=
  (List.replicate n
    [⟨{ p with ind := true }, (blinkTiming c k).on⟩, ⟨{ p with ind := false }, (blinkTiming c k).off⟩]).flatten

/-- One actuator pulse (rule R161). -/
def pulsePhases (c : Config) (p : Pins) : List Phase :=
  [⟨{ p with act := true }, c.pulseT⟩, ⟨{ p with act := false }, 0⟩]

/-- The duration of a waveform. -/
def waveTime (ws : List Phase) : Nat := (ws.map Phase.duration).sum

/-- The duration of a DELAY (rules R100, R163). -/
def delayTime (c : Config) : DelaySel → Nat
  | .debounce => c.debounceT
  | .settle => c.settleT

/-! ### Arrivals and services (rules R281 to R288) -/

/-- `arrive(TICK)` (rule R281). -/
def State.arriveTick (s : State) : State := { s with tpend := true }

/-- `arrive(PCHG)` (rule R281). -/
def State.arrivePchg (s : State) : State := { s with ppend := true }

/-- The tick service, which wakes the block (rules R284, R286). -/
def State.serviceTick (s : State) : State := { s with tpend := false, srf := false, sleeping := false }

/-- The pin-change service, which wakes the block (rules R285, R286). -/
def State.servicePchg (s : State) : State := { s with ppend := false, pbe := true, sleeping := false }

/-- The service of one pending latch, the tick first (rule R287). A service needs no return (rule R291). -/
def State.service (s : State) : State := if s.tpend then s.serviceTick else s.servicePchg

/-! ### The illegal-word fault (rule R289) -/

/-- `raise Illegal(PC, w)`: record it, lock, put the pins in their idle levels. It does not return (rule R291). -/
def State.raiseIllegal (s : State) (w : Word) : State :=
  { s.emit (.fault (.illegal s.pc w)) with locked := true, pins := .idle }

/-! ### What USEQ does next (rule R226) -/

/-- The four cases of a step of USEQ. -/
inductive UseqAction where
  /-- LOCKED = 1: no step. -/
  | locked
  /-- IE = 1 and a latch is set: service one. -/
  | service
  /-- SLEEPING = 1 and nothing to service: no step. -/
  | asleep
  /-- Decode and execute the word at PC. -/
  | execute (w : Word)
deriving DecidableEq, Repr

/-- Which case of rule R226 applies. -/
def State.useqAction (s : State) : UseqAction :=
  if s.locked then .locked
  else if s.ie && (s.tpend || s.ppend) then .service
  else if s.sleeping then .asleep
  else .execute (s.romFetch s.pc)

/-! ### Power (rules R298, R320) -/

/-- Power-on reset: every register and flag at its reset value, the store kept, the event recorded (rules R320, R321). -/
def State.powerOnReset (s : State) : State :=
  .powerOn s.cfg s.rom s.env s.nvm s.nvmWrites (s.trace ++ [.reset])

/-- The power states that a state of the model can be in; `off` lies inside the power-loss step (rule R298). -/
inductive PowerState where
  | run | sleep | locked
deriving DecidableEq, Repr

/-- The power state (rule R298). -/
def State.powerState (s : State) : PowerState :=
  if s.locked then .locked else if s.sleeping then .sleep else .run

/-! ### Turns (rule R19) -/

/-- The state with the environment's later turns. -/
def State.withTurns (s : State) (ts : List Turn) : State := { s with env := { s.env with turns := ts } }

/-! ### Building a block (rules R7, R14) -/

/-- The block of some parameters after its first power-on reset. Parameters outside the constraints are refused: they have no
runs (rule R14, log 3). -/
def State.build (p : Params) : Host.Outcome State Fault Refusal :=
  if h : p.valid = true then .next (.firstPowerOn { p with ok := h }) else .refused .configurationRefused

end Sys2Proof.Machine
end

