-- ==== Sys2Proof/Machine/Operands.lean ====
section
/-! DEFINITION. The operands an instruction reads besides its fields: the attributes of the selected mode (rule R207), the
mode position and the blink count (rules R156, R159). -/

namespace Sys2Proof.Machine

/-- `m` is a selectable mode, START_MODE ≤ m < MODE_COUNT (rules R9, R182). -/
def inModeRange (c : Config) (m : Byte) : Bool := decide (c.startMode ≤ m.toNat) && decide (m.toNat < c.modeCount)

/-- POL(m) (rule R207). Outside the mode range a free value: DESIGN CHOICE, safe, log 12. -/
def policyOf (c : Config) (m : Byte) : Policy :=
  if inModeRange c m then c.modePolicy.getD (m.toNat - c.startMode) .none else Config.freePolicy m

/-- LR(m) (rule R207). Outside the mode range a free value: DESIGN CHOICE, safe, log 12. -/
def lightReactive (c : Config) (m : Byte) : Bool :=
  if inModeRange c m then c.modeLr.getD (m.toNat - c.startMode) false else Config.freeLightReactive m

/-- TIER(m), used only where POL(m) is not NONE, where TIER_OFFSET ≤ m (rules R207, R208). -/
def tierOf (c : Config) (m : Byte) : Nat := (m.toNat - c.tierOffset) % 3

/-- IT[i] for a tier 0, 1 or 2 (rules R8, R207). -/
def intervalTable (c : Config) (i : Nat) : Ticks :=
  if i = 0 then c.itShort else if i = 1 then c.itMedium else c.itLong

/-- IV(m) (rule R207). Outside the mode range a free value: DESIGN CHOICE, safe, log 12. -/
def intervalOf (c : Config) (m : Byte) : Ticks :=
  if inModeRange c m then intervalTable c (tierOf c m) else Config.freeInterval m

/-- The mode position, MODE - START_MODE + 1 (rule R159). Below START_MODE a free value: DESIGN CHOICE, safe, log 13. -/
def modePosition (c : Config) (m : Byte) : Nat :=
  if c.startMode ≤ m.toNat then m.toNat - c.startMode + 1 else Config.freeModePosition m

/-- The count of a BLINK: K, or the mode position when S = 1 (rule R156). -/
def State.blinkCount (st : State) (s : Bool) (k : BitVec 7) : Nat :=
  if s then modePosition st.cfg st.mode else k.toNat

/-- The mode NVMLD takes from a byte of the store (rule R141). -/
def modeOfByte (c : Config) (b : Byte) : Byte :=
  if b = erased then BitVec.ofNat 8 c.defaultMode
  else if decide (b.toNat < c.startMode) || decide (b.toNat ≥ c.modeCount) then BitVec.ofNat 8 c.defaultMode
  else b

/-- The mode after `m`, wrapping at MODE_COUNT; START_MODE from outside the range (rule R183). -/
def modeAfter (c : Config) (m : Byte) : Byte :=
  if decide (m.toNat < c.startMode) || decide (m.toNat + 1 ≥ c.modeCount) then BitVec.ofNat 8 c.startMode else m + 1

end Sys2Proof.Machine
end

