-- ==== Sys2Proof/Machine/Actuation.lean ====
section
/-! DEFINITION. The pulse sequencer SEQ: BLINK, PULSE and DELAY (rules R155 to R167). -/

namespace Sys2Proof.Machine

/-- `n` blinks of a class: one event and the waveform, or nothing when `n` is 0 (rule R156). -/
def State.blinkTimes (s : State) (p : PatternClass) (n : Nat) : State :=
  if n ≥ 1 then { s.emit (.blink p n) with pins := endPins s.pins (blinkPhases s.cfg p s.pins n) } else s

/-- BLINK (rule R156). A term with S = 1 and K not zero stands for an illegal word, raised before any pin changes (log 11). -/
def execBlink (p : PatternClass) (src : Bool) (k : BitVec 7) (s : State) : Host.Outcome State Fault Refusal :=
  if src && k != 0 then .next (s.raiseIllegal (encode (.blink p src k)))
  else .next (s.blinkTimes p (s.blinkCount src k)).advance

/-- PULSE (rules R161, R162). -/
def execPulse (s : State) : Host.Outcome State Fault Refusal :=
  .next { s.emit .pulse with pins := endPins s.pins (pulsePhases s.cfg s.pins) }.advance

/-- DELAY: a wait of `delayTime`, no state changes (rule R163). -/
def execDelay (_d : DelaySel) (s : State) : Host.Outcome State Fault Refusal := .next s.advance

end Sys2Proof.Machine
end

