-- ==== Sys2Proof/Machine/Engine.lean ====
section
/-! DEFINITION. The saturating counters CTL: MTINC, MTCLR, MTCLAMP, LTINC, LTCLR and SRFSET (rules R195 to R220). -/

namespace Sys2Proof.Machine

/-- MTINC (rule R197). -/
def execMtinc (s : State) : Host.Outcome State Fault Refusal :=
  .next { s.advance with mt := BitVec.ofNat 16 (satInc s.mt.toNat (maxInt s.cfg)) }

/-- MTCLR (rule R199). -/
def execMtclr (s : State) : Host.Outcome State Fault Refusal := .next { s.advance with mt := 0 }

/-- MTCLAMP (rule R201). -/
def execMtclamp (s : State) : Host.Outcome State Fault Refusal :=
  .next { s.advance with mt := BitVec.ofNat 16 (min s.mt.toNat (maxInt s.cfg)) }

/-- LTINC (rule R203). -/
def execLtinc (s : State) : Host.Outcome State Fault Refusal :=
  .next { s.advance with lt := BitVec.ofNat 16 (satInc s.lt.toNat s.cfg.maxLight.toNat) }

/-- LTCLR (rule R206). -/
def execLtclr (s : State) : Host.Outcome State Fault Refusal := .next { s.advance with lt := 0 }

/-- SRFSET (rule R209). -/
def execSrfset (s : State) : Host.Outcome State Fault Refusal := .next { s.advance with srf := true }

end Sys2Proof.Machine
end

