-- ==== Sys2Proof/Machine/Input.lean ====
section
/-! DEFINITION. The debounced button detector DBN and mode cycling: SAMPLE, PBECLR and MODEADV (rules R175 to R187). -/

namespace Sys2Proof.Machine

/-- SAMPLE: both levels at the same instant (rule R178). -/
def execSample (s : State) : Host.Outcome State Fault Refusal :=
  .next { s.afterButtons.advance with ssp := s.buttonsDraw.1, smd := s.buttonsDraw.2 }

/-- PBECLR (rule R181). -/
def execPbeclr (s : State) : Host.Outcome State Fault Refusal := .next { s.advance with pbe := false }

/-- MODEADV (rule R183). -/
def execModeadv (s : State) : Host.Outcome State Fault Refusal :=
  .next { s.advance with mode := modeAfter s.cfg s.mode }

end Sys2Proof.Machine
end

