-- ==== Sys2Proof/Machine/Nvm.lean ====
section
/-! DEFINITION. The persistent mode store: NVMLD and NVMST (rules R140 to R148). -/

namespace Sys2Proof.Machine

/-- NVMLD (rule R141). -/
def execNvmld (s : State) : Host.Outcome State Fault Refusal :=
  .next { s.afterNvmRead.advance with mode := modeOfByte s.cfg s.nvmReadByte }

/-- NVMST, when power does not fail during it (rules R143, R144, R146); `State.powerLoss` has the other outcome (rule R145). -/
def execNvmst (s : State) : Host.Outcome State Fault Refusal :=
  .next ((s.emit (.nvmWrite s.mode)).nvmStore s.mode).advance

end Sys2Proof.Machine
end

