-- ==== Sys2Proof/Machine/Reserved.lean ====
section
/-! DEFINITION. The reserved rows of the opcode table: every word of opcode 0x15 to 0x1F raises the illegal-word fault (rules
R96, R101, R289). -/

namespace Sys2Proof.Machine

/-- Opcode 0x15 (rules R101, R289). -/
def execReserved15 (low : BitVec 11) (s : State) : Host.Outcome State Fault Refusal :=
  .next (s.raiseIllegal (reservedWord 0x15 low))

/-- Opcode 0x16 (rules R101, R289). -/
def execReserved16 (low : BitVec 11) (s : State) : Host.Outcome State Fault Refusal :=
  .next (s.raiseIllegal (reservedWord 0x16 low))

/-- Opcode 0x17 (rules R101, R289). -/
def execReserved17 (low : BitVec 11) (s : State) : Host.Outcome State Fault Refusal :=
  .next (s.raiseIllegal (reservedWord 0x17 low))

/-- Opcode 0x18 (rules R101, R289). -/
def execReserved18 (low : BitVec 11) (s : State) : Host.Outcome State Fault Refusal :=
  .next (s.raiseIllegal (reservedWord 0x18 low))

/-- Opcode 0x19 (rules R101, R289). -/
def execReserved19 (low : BitVec 11) (s : State) : Host.Outcome State Fault Refusal :=
  .next (s.raiseIllegal (reservedWord 0x19 low))

/-- Opcode 0x1A (rules R101, R289). -/
def execReserved1A (low : BitVec 11) (s : State) : Host.Outcome State Fault Refusal :=
  .next (s.raiseIllegal (reservedWord 0x1A low))

/-- Opcode 0x1B (rules R101, R289). -/
def execReserved1B (low : BitVec 11) (s : State) : Host.Outcome State Fault Refusal :=
  .next (s.raiseIllegal (reservedWord 0x1B low))

/-- Opcode 0x1C (rules R101, R289). -/
def execReserved1C (low : BitVec 11) (s : State) : Host.Outcome State Fault Refusal :=
  .next (s.raiseIllegal (reservedWord 0x1C low))

/-- Opcode 0x1D (rules R101, R289). -/
def execReserved1D (low : BitVec 11) (s : State) : Host.Outcome State Fault Refusal :=
  .next (s.raiseIllegal (reservedWord 0x1D low))

/-- Opcode 0x1E (rules R101, R289). -/
def execReserved1E (low : BitVec 11) (s : State) : Host.Outcome State Fault Refusal :=
  .next (s.raiseIllegal (reservedWord 0x1E low))

/-- Opcode 0x1F (rules R101, R289). -/
def execReserved1F (low : BitVec 11) (s : State) : Host.Outcome State Fault Refusal :=
  .next (s.raiseIllegal (reservedWord 0x1F low))

end Sys2Proof.Machine
end

