-- ==== Sys2Proof/Machine/Sense.lean ====
section
/-! DEFINITION. The light-sensor capture CAP: CAL and SENSE (rules R120 to R131). -/

namespace Sys2Proof.Machine

/-- The result of one measurement with bound B (rule R122). -/
def State.measure (s : State) (bound : Nat) : Nat := min s.dischargeDraw bound

/-- The state after a measurement that counted `r` iterations: the draw is used, the sense line is restored (rules R121,
R123). -/
def State.afterMeasure (s : State) (r : Nat) : State :=
  { s.afterDischarge with pins := endPins s.pins (sensePhases s.cfg s.pins r) }

/-- CAL (rule R125). -/
def execCal (s : State) : Host.Outcome State Fault Refusal :=
  let r := s.measure senseMax
  .next { (s.afterMeasure r).advance with thr := BitVec.ofNat 32 (satAdd r s.cfg.calMargin senseMax) }

/-- SENSE (rule R129). -/
def execSense (s : State) : Host.Outcome State Fault Refusal :=
  let r := s.measure s.thr.toNat
  .next { (s.afterMeasure r).advance with lon := decide (r < s.thr.toNat) }

end Sys2Proof.Machine
end

