-- ==== Sys2Proof/Machine/Flags.lean ====
section
/-! DEFINITION. The packed views STATUS and PINS (rules R37, R48), the register numbers of a dump (rules R33 to R37, R48),
and the conditions a BR reads (rules R98, R210 to R216, R230). -/

namespace Sys2Proof.Machine

/-- STATUS, register 4: LOCKED at bit 9 down to PBE at bit 0 (rule R37). -/
def State.status (s : State) : BitVec 10 :=
  BitVec.ofBool s.locked ++ BitVec.ofBool s.sleeping ++ BitVec.ofBool s.lon ++ BitVec.ofBool s.smd ++
    BitVec.ofBool s.ssp ++ BitVec.ofBool s.ppend ++ BitVec.ofBool s.tpend ++ BitVec.ofBool s.ie ++
    BitVec.ofBool s.srf ++ BitVec.ofBool s.pbe

/-- PINS, register 5: SENSE_O at bit 3 down to ACT at bit 0 (rule R48). -/
def State.pinsWord (s : State) : BitVec 4 :=
  BitVec.ofBool s.pins.senseO ++ BitVec.ofBool s.pins.senseOe ++ BitVec.ofBool s.pins.ind ++ BitVec.ofBool s.pins.act

/-- The value of a numbered register in a dump; no instruction reads a register by number (rules R33 to R37, R48). -/
def State.register (s : State) : Nat → Option Nat
  | 0 => some s.mode.toNat
  | 1 => some s.mt.toNat
  | 2 => some s.lt.toNat
  | 3 => some s.thr.toNat
  | 4 => some s.status.toNat
  | 5 => some s.pinsWord.toNat
  | _ => none

/-- IMD, the mode is an interval mode (rule R210). -/
def State.imd (s : State) : Bool := policyOf s.cfg s.mode != .none

/-- IEL, the interval has elapsed in an interval mode (rule R211). -/
def State.iel (s : State) : Bool := s.imd && decide (s.mt.toNat ≥ (intervalOf s.cfg s.mode).toNat)

/-- What the interval policy asks of the light: policies A, B and C of rules R213 to R215. -/
def State.policyLight (s : State) : Policy → Bool
  | .none => false
  | .a => !s.lon || decide (s.lt.toNat ≥ s.cfg.maxLight.toNat)
  | .b => s.lon
  | .c => !s.lon

/-- IFC, the interval policy fires (rule R212). -/
def State.ifc (s : State) : Bool := s.iel && s.policyLight (policyOf s.cfg s.mode)

/-- EFC, the light-edge policy fires (rule R216). -/
def State.efc (s : State) : Bool :=
  lightReactive s.cfg s.mode && decide (s.lt.toNat > s.cfg.minLightOn.toNat) &&
    decide (s.mt.toNat > s.cfg.guardTicks.toNat)

/-- `cond(C)` (rule R230). -/
def State.cond (s : State) : Cond → Bool
  | .alw => true
  | .pbe => s.pbe
  | .srf => s.srf
  | .ssp => s.ssp
  | .smd => s.smd
  | .lon => s.lon
  | .iel => s.iel
  | .ifc => s.ifc
  | .efc => s.efc
  | .imd => s.imd

end Sys2Proof.Machine
end

