-- ==== Sys2Proof/Machine/Sequencer.lean ====
section
/-! DEFINITION. The micro-sequencer's own instructions: NOP, BR, EI, DI and SLEEP (rules R225 to R241). -/

namespace Sys2Proof.Machine

/-- NOP (rule R228). -/
def execNop (s : State) : Host.Outcome State Fault Refusal := .next s.advance

/-- BR: taken when the condition, inverted by N = 1, holds (rule R229). -/
def execBr (n : Bool) (c : Cond) (t : RomAddr) (s : State) : Host.Outcome State Fault Refusal :=
  .next (if (s.cond c ^^ n) then s.jump t else s.advance)

/-- EI (rule R232). -/
def execEi (s : State) : Host.Outcome State Fault Refusal := .next { s.advance with ie := true }

/-- DI (rule R233). -/
def execDi (s : State) : Host.Outcome State Fault Refusal := .next { s.advance with ie := false }

/-- SLEEP: enter sleep when no work is pending, in one step with the test (rules R236, R238, R239). -/
def execSleep (s : State) : Host.Outcome State Fault Refusal :=
  .next (if !s.pbe && s.srf then { s.advance with sleeping := true } else s.advance)

end Sys2Proof.Machine
end

