-- ==== Sys2Proof/Machine/Dispatch.lean ====
section
/-! DEFINITION. What each instruction does: one arm for each row of the opcode table (rule R96). -/

namespace Sys2Proof.Machine

/-- One instruction executes as one atomic step (rules R17, R226). -/
def exec (i : Instr) (s : State) : Host.Outcome State Fault Refusal :=
  match i with
  | .nop => Sys2Proof.Machine.execNop s
  | .br n c t => Sys2Proof.Machine.execBr n c t s
  | .nvmld => Sys2Proof.Machine.execNvmld s
  | .nvmst => Sys2Proof.Machine.execNvmst s
  | .cal => Sys2Proof.Machine.execCal s
  | .sense => Sys2Proof.Machine.execSense s
  | .mtinc => Sys2Proof.Machine.execMtinc s
  | .mtclr => Sys2Proof.Machine.execMtclr s
  | .mtclamp => Sys2Proof.Machine.execMtclamp s
  | .ltinc => Sys2Proof.Machine.execLtinc s
  | .ltclr => Sys2Proof.Machine.execLtclr s
  | .modeadv => Sys2Proof.Machine.execModeadv s
  | .sample => Sys2Proof.Machine.execSample s
  | .blink p src k => Sys2Proof.Machine.execBlink p src k s
  | .pulse => Sys2Proof.Machine.execPulse s
  | .delay d => Sys2Proof.Machine.execDelay d s
  | .ei => Sys2Proof.Machine.execEi s
  | .di => Sys2Proof.Machine.execDi s
  | .srfset => Sys2Proof.Machine.execSrfset s
  | .pbeclr => Sys2Proof.Machine.execPbeclr s
  | .sleep => Sys2Proof.Machine.execSleep s
  | .reserved15 low => Sys2Proof.Machine.execReserved15 low s
  | .reserved16 low => Sys2Proof.Machine.execReserved16 low s
  | .reserved17 low => Sys2Proof.Machine.execReserved17 low s
  | .reserved18 low => Sys2Proof.Machine.execReserved18 low s
  | .reserved19 low => Sys2Proof.Machine.execReserved19 low s
  | .reserved1A low => Sys2Proof.Machine.execReserved1A low s
  | .reserved1B low => Sys2Proof.Machine.execReserved1B low s
  | .reserved1C low => Sys2Proof.Machine.execReserved1C low s
  | .reserved1D low => Sys2Proof.Machine.execReserved1D low s
  | .reserved1E low => Sys2Proof.Machine.execReserved1E low s
  | .reserved1F low => Sys2Proof.Machine.execReserved1F low s

end Sys2Proof.Machine
end

