-- ==== Sys2Proof/Machine/Power.lean ====
section
/-! DEFINITION. Power loss, or reset, during a step of USEQ (rules R145, R161, R299, R320). -/

namespace Sys2Proof.Machine

/-- The instruction that a step of USEQ would execute, none when it would execute none (rule R226). -/
def State.instrAtHand (s : State) : Option Instr :=
  match s.useqAction with
  | .execute w => (decode w).toOption
  | .locked | .service | .asleep => none

/-- What an instruction has done when power fails during it, but for the registers and pins that the reset sets. A timed
instruction (rule R227) has emitted its event and taken its draw, which its pseudocode puts before its waveform: PULSE (rule
R161), BLINK (rule R156), CAL and SENSE (rules R125, R129), NVMST (rule R145). Every other instruction either is atomic (rule
R226) or, DELAY, writes nothing. DEDUCED but for PULSE and NVMST: log 14. -/
def State.cut (s : State) : Instr → State
  | .nvmst => s.cutWrite
  | .pulse => s.emit .pulse
  | .blink p src k => s.blinkTimes p (s.blinkCount src k)
  | .cal | .sense => s.afterDischarge
  | .nop | .br _ _ _ | .nvmld | .mtinc | .mtclr | .mtclamp | .ltinc | .ltclr | .modeadv | .sample | .delay _
  | .ei | .di | .srfset | .pbeclr | .sleep
  | .reserved15 _ | .reserved16 _ | .reserved17 _ | .reserved18 _ | .reserved19 _ | .reserved1A _
  | .reserved1B _ | .reserved1C _ | .reserved1D _ | .reserved1E _ | .reserved1F _ => s

/-- Power fails during the step USEQ is about to make, and power-on reset follows at once (rules R145, R299, R320). -/
def State.powerLoss (s : State) : State :=
  match s.instrAtHand with
  | some i => (s.cut i).powerOnReset
  | none => s.powerOnReset

end Sys2Proof.Machine
end

