-- ==== Sys2Proof/Machine/Step.lean ====
section
/-! DEFINITION. One step of the machine: a step of USEQ (rule R226), an arrival (rule R281), power-on reset (rule R320) or power
loss (rules R145, R299), whichever the environment's turns say (rule R19, log 6). -/

namespace Sys2Proof.Machine

/-- One step of USEQ (rule R226). Where the rule says "no step" the state stays as it is (log 8). -/
def useqStep (s : State) : Host.Outcome State Fault Refusal :=
  match s.useqAction with
  | .locked => .next s
  | .service => .next s.service
  | .asleep => .next s
  | .execute w =>
    match decode w with
    | .ok i => exec i s
    | .error _ => .next (s.raiseIllegal w)

/-- One step of the machine: the agent whose turn it is moves, USEQ when no turn is listed (rules R19, R82). -/
def step (s : State) : Host.Outcome State Fault Refusal :=
  match s.env.turns with
  | [] => useqStep s
  | .useq :: ts => useqStep (s.withTurns ts)
  | .tick :: ts => .next (s.withTurns ts).arriveTick
  | .pchg :: ts => .next (s.withTurns ts).arrivePchg
  | .powerOnReset :: ts => .next (s.withTurns ts).powerOnReset
  | .powerLoss :: ts => .next (s.withTurns ts).powerLoss

/-- `s` with the instruction of bits `w` at PC in the control ROM, and everything else the fetch needs: it is USEQ's turn,
USEQ is neither locked nor asleep, and no latch is serviced first (rule R226). At `State.reset` the ROM alone changes. Every
instruction is one word of 16 bits (rule R90; log 5). -/
def State.withFetchWord (s : State) (nbits w : Nat) : State :=
  { s with
    rom := s.rom.write s.cfg s.pc (BitVec.ofNat 16 (w % 2 ^ nbits))
    locked := false
    sleeping := false
    tpend := s.tpend && !s.ie
    ppend := s.ppend && !s.ie
    env := { s.env with turns := match s.env.turns with | [] => [] | t :: ts => .useq :: t :: ts } }

end Sys2Proof.Machine
end

