-- ==== Sys2Proof/Machine/Assembler.lean ====
section
/-! DEFINITION. The assembler's text of an instruction and the pseudo-instructions (rules R104, R105). Nothing in the machine
reads them. -/

namespace Sys2Proof.Machine

/-- The name of a condition (rule R98). -/
def condText : Cond → String
  | .alw => "ALW" | .pbe => "PBE" | .srf => "SRF" | .ssp => "SSP" | .smd => "SMD"
  | .lon => "LON" | .iel => "IEL" | .ifc => "IFC" | .efc => "EFC" | .imd => "IMD"

/-- The name of a pattern class (rule R99). -/
def patternText : PatternClass → String
  | .boot => "BOOT" | .lonc => "LONC" | .loffc => "LOFFC" | .pre => "PRE" | .mack => "MACK"

/-- The name of a delay selector (rule R100). -/
def delayText : DelaySel → String
  | .debounce => "DEBOUNCE" | .settle => "SETTLE"

/-- The assembler's line of a legal instruction, numbers in decimal; none for a term that the syntax of rule R104 cannot
write. -/
def asmText : Instr → Option String
  | .nop => some "NOP"
  | .br n c t => some ("BR " ++ (if n then "!" else "") ++ condText c ++ ", " ++ toString t.toNat)
  | .nvmld => some "NVMLD"
  | .nvmst => some "NVMST"
  | .cal => some "CAL"
  | .sense => some "SENSE"
  | .mtinc => some "MTINC"
  | .mtclr => some "MTCLR"
  | .mtclamp => some "MTCLAMP"
  | .ltinc => some "LTINC"
  | .ltclr => some "LTCLR"
  | .modeadv => some "MODEADV"
  | .sample => some "SAMPLE"
  | .blink p false k => some ("BLINK " ++ patternText p ++ ", #" ++ toString k.toNat)
  | .blink p true k => if k = 0 then some ("BLINK " ++ patternText p ++ ", MODE") else none
  | .pulse => some "PULSE"
  | .delay d => some ("DELAY " ++ delayText d)
  | .ei => some "EI"
  | .di => some "DI"
  | .srfset => some "SRFSET"
  | .pbeclr => some "PBECLR"
  | .sleep => some "SLEEP"
  | .reserved15 _ | .reserved16 _ | .reserved17 _ | .reserved18 _ | .reserved19 _ | .reserved1A _
  | .reserved1B _ | .reserved1C _ | .reserved1D _ | .reserved1E _ | .reserved1F _ => none

/-- `JMP target` (rule R105). -/
def asmJmp (t : RomAddr) : List Instr := [.br false .alw t]

/-- `FIRE` (rules R105, R166). -/
def asmFire (c : Config) : List Instr := [.blink .pre false c.nPre, .di, .pulse, .ei]

end Sys2Proof.Machine
end

