-- ==== Sys2Proof/Safety.lean ====
section
/-! DEFINITION. The terms in which claims about the block are made: the invariants of rules R54 to R57, what the next step is,
quiescent states (rule R241), the window assumption (rule R345), and what an operation leaves alone. -/

namespace Sys2Proof.Machine

/-! ### Invariants -/

/-- START_MODE ≤ MODE < MODE_COUNT (rule R54). -/
abbrev State.ModeInRange (s : State) : Prop := s.cfg.startMode ≤ s.mode.toNat ∧ s.mode.toNat < s.cfg.modeCount

/-- The data invariants: the mode range (rule R54), the saturation laws (rules R55, R56), the idle pins (rule R57, first
clause), and the canonical form of the ROM's listed words (log 4). -/
structure State.Inv (s : State) : Prop where
  modeInRange : s.ModeInRange
  mtBounded : s.mt.toNat ≤ maxInt s.cfg
  ltBounded : s.lt.toNat ≤ s.cfg.maxLight.toNat
  pinsIdle : s.pins = .idle
  romCanonical : s.rom.wf s.cfg

/-- Whether IE is 1 when USEQ stands at an address of the fixed ROM: read from the table of rule R250, where EI stands at
0x03, 0x0B, 0x15, 0x22 and 0x2E and DI at 0x09, 0x0E, 0x20 and 0x2C (rule R256). -/
def interruptsOnAt (pc : RomAddr) : Bool :=
  !(pc.toNat ≤ 0x03 || pc.toNat = 0x0A || pc.toNat = 0x0B || (0x0F ≤ pc.toNat && pc.toNat ≤ 0x15) ||
    pc.toNat = 0x21 || pc.toNat = 0x22 || pc.toNat = 0x2D || pc.toNat = 0x2E)

/-- The control invariant of the hardware's own ROM: PC stands at a used word, the critical sections are the ones of the
table, the block is not locked, and it sleeps only after the SLEEP (rules R57 second clause, R256, R263, R340). -/
structure State.FixedRomInv (s : State) : Prop where
  romFixed : s.rom = []
  pcUsed : s.pc.toNat ≤ 0x33
  ieByAddress : s.ie = interruptsOnAt s.pc
  notLocked : s.locked = false
  asleepAfterSleep : s.sleeping = true → s.pc = 0x33

/-- Everything the spec says of reset, in one place (rule R321), but for the store, the trace and the model's own fields. -/
structure State.HasResetValues (s : State) : Prop where
  pc : s.pc = 0x00
  mode : s.mode.toNat = s.cfg.defaultMode
  mt : s.mt = 0
  lt : s.lt = 0
  thr : s.thr = 0
  pbe : s.pbe = false
  srf : s.srf = true
  ie : s.ie = false
  tpend : s.tpend = false
  ppend : s.ppend = false
  ssp : s.ssp = false
  smd : s.smd = false
  lon : s.lon = false
  sleeping : s.sleeping = false
  locked : s.locked = false
  status : s.status = 0x002
  pins : s.pinsWord = 0x4

/-! ### What the next step is -/

/-- It is USEQ's turn. -/
def State.useqTurn (s : State) : Bool :=
  match s.env.turns with
  | [] | .useq :: _ => true
  | .tick :: _ | .pchg :: _ | .powerOnReset :: _ | .powerLoss :: _ => false

/-- The next step starts with power-on reset or power loss. -/
def State.resetTurn (s : State) : Bool :=
  match s.env.turns with
  | .powerOnReset :: _ | .powerLoss :: _ => true
  | [] | .useq :: _ | .tick :: _ | .pchg :: _ => false

/-- The state once the environment's first turn is taken off the list. -/
def State.turnTaken (s : State) : State := s.withTurns s.env.turns.tail

/-- The word that the next step decodes, none when the next step decodes nothing. -/
def State.nextWord (s : State) : Option Word :=
  if s.useqTurn then
    match s.useqAction with
    | .execute w => some w
    | .locked | .service | .asleep => none
  else none

/-- The instruction that the next step executes, none when it executes none. -/
def State.nextInstr (s : State) : Option Instr := s.nextWord.bind fun w => (decode w).toOption

/-- The next step services a latch. -/
def State.servicesNext (s : State) : Bool := s.useqTurn && decide (s.useqAction = .service)

/-- Nothing happens until an arrival: asleep with interrupts on and no latch set (rule R241). -/
def State.asleepQuiescent (s : State) : Bool := s.sleeping && s.ie && !s.tpend && !s.ppend && !s.locked

/-! ### The window assumption (rule R345): a hypothesis a proof may make on the order of arrivals, not a rule -/

/-- Whether a TICK is under way after the next step, from whether one is before it. A TICK is under way from its arrival until
the loop iteration that processes it has executed its SLEEP, with TPEND clear and SRF set by then, or until a reset (log 23). -/
def State.tickUnderWayAfter (s : State) (underWay : Bool) : Bool :=
  if s.resetTurn then false
  else if s.env.turns.head? = some .tick then true
  else if s.nextInstr = some .sleep ∧ s.tpend = false ∧ s.srf = true then false
  else underWay

/-- WINDOW over the next `n` steps: no TICK arrives while one is under way. A TICK in boot, or in an iteration that a button
began, it allows. -/
def windowFor : Nat → Bool → State → Bool
  | 0, _, _ => true
  | n + 1, underWay, s =>
    !(underWay && decide (s.env.turns.head? = some .tick)) &&
      match step s with
      | .next t => windowFor n (s.tickUnderWayAfter underWay) t
      | .fault _ => true
      | .refused _ => true

/-- WINDOW over the next `n` steps (rule R345). A TICK that waits for its service (TPEND) or for its processing (SRF) is under
way at the start; none is after a reset. -/
def State.window (s : State) (n : Nat) : Bool := windowFor n (s.tpend || !s.srf) s

/-- PC stands in the tick routine of the hardware's ROM after its BR SRF (rules R257 to R260). -/
def inTickRoutine (pc : RomAddr) : Bool := decide (0x18 ≤ pc.toNat) && decide (pc.toNat ≤ 0x31)

/-- The next step loses a TICK: one that arrives while TPEND is set (rule R282), one whose service falls inside the tick
routine (rule R330), or one whose service finds SRF still clear for the TICK before it, so that one pass counts both. -/
def State.losesTick (s : State) : Bool :=
  s.tpend && (decide (s.env.turns.head? = some .tick) || (s.servicesNext && (!s.srf || inTickRoutine s.pc)))

/-- No TICK is lost in the next `n` steps. -/
def State.keepsTicks : Nat → State → Bool
  | 0, _ => true
  | n + 1, s =>
    !s.losesTick &&
      match step s with
      | .next t => t.keepsTicks n
      | .fault _ => true
      | .refused _ => true

/-! ### Draws used up (rule R16): what a draw leaves of the environment's inputs, written out -/

/-- A discharge time is taken: the first one listed, or one more free value (log 7). -/
def Environment.dischargeUsed (e : Environment) : Environment :=
  { e with discharge := e.discharge.tail, drawn := e.drawn + if e.discharge.isEmpty then 1 else 0 }

/-- A pair of button levels is taken. -/
def Environment.buttonsUsed (e : Environment) : Environment :=
  { e with buttons := e.buttons.tail, drawn := e.drawn + if e.buttons.isEmpty then 1 else 0 }

/-- A byte is taken. -/
def Environment.bytesUsed (e : Environment) : Environment :=
  { e with bytes := e.bytes.tail, drawn := e.drawn + if e.bytes.isEmpty then 1 else 0 }

/-- What a read of the store leaves of the environment's inputs: a byte is taken past the endurance alone (rules R75, R146). -/
def State.envAfterNvmRead (s : State) : Environment :=
  if s.nvmWrites ≤ s.cfg.nvmEndurance then s.env else s.env.bytesUsed

/-! ### The policy of the selected mode, as rules R207 to R216 write it for a mode of the range -/

/-- POL(MODE): the entry of MODE_POLICY for MODE. -/
def State.catalogPolicy (s : State) : Policy := s.cfg.modePolicy.getD (s.mode.toNat - s.cfg.startMode) .none

/-- LR(MODE): the entry of MODE_LR for MODE. -/
def State.catalogLr (s : State) : Bool := s.cfg.modeLr.getD (s.mode.toNat - s.cfg.startMode) false

/-- IV(MODE) = IT[(MODE - TIER_OFFSET) mod 3]. -/
def State.catalogInterval (s : State) : Nat :=
  ([s.cfg.itShort, s.cfg.itMedium, s.cfg.itLong].getD ((s.mode.toNat - s.cfg.tierOffset) % 3) 0).toNat

/-- When a condition code holds (rules R98, R210 to R216, R230). -/
def State.CondHolds (s : State) : Cond → Prop
  | .alw => True
  | .pbe => s.pbe = true
  | .srf => s.srf = true
  | .ssp => s.ssp = true
  | .smd => s.smd = true
  | .lon => s.lon = true
  | .imd => s.catalogPolicy ≠ .none
  | .iel => s.catalogPolicy ≠ .none ∧ s.mt.toNat ≥ s.catalogInterval
  | .ifc => s.mt.toNat ≥ s.catalogInterval ∧
      ((s.catalogPolicy = .a ∧ (s.lon = false ∨ s.lt.toNat ≥ s.cfg.maxLight.toNat)) ∨
        (s.catalogPolicy = .b ∧ s.lon = true) ∨ (s.catalogPolicy = .c ∧ s.lon = false))
  | .efc => s.catalogLr = true ∧ s.lt.toNat > s.cfg.minLightOn.toNat ∧ s.mt.toNat > s.cfg.guardTicks.toNat

/-- The conditions that read the mode's policy. -/
def readsPolicy : Cond → Bool
  | .iel | .ifc | .efc | .imd => true
  | .alw | .pbe | .srf | .ssp | .smd | .lon => false

/-! ### Frames and sequences -/

/-- What rule R289 makes of a state when the illegal word `w` is met. -/
abbrev State.lockedBy (s : State) (w : Word) : State :=
  { s with trace := s.trace ++ [.fault (.illegal s.pc w)], locked := true, pins := .idle }

/-- The store and every word of the control ROM read the same. -/
abbrev SameMemory (s t : State) : Prop :=
  t.nvm = s.nvm ∧ t.nvmWrites = s.nvmWrites ∧ ∀ a : RomAddr, t.romFetch a = s.romFetch a

/-- Every word of the control ROM reads the same. -/
abbrev SameRom (s t : State) : Prop := ∀ a : RomAddr, t.romFetch a = s.romFetch a

/-- An instruction and its word: each stands for the other. -/
abbrev HasWord (i : Instr) (w : Word) : Prop := encode i = w ∧ decode w = .ok i

/-- Instructions one after the other, with nothing between. -/
def execAll : List Instr → State → Host.Outcome State Fault Refusal
  | [], s => .next s
  | i :: is, s =>
    match exec i s with
    | .next t => execAll is t
    | .fault f => .fault f
    | .refused r => .refused r

end Sys2Proof.Machine
end

