-- ==== Sys2Proof/Certificates/Slice0/Obligations.lean ====
section
/-! DEFINITION. The statements for the provers. Each formalises the rules its docstring names; each is about every state, hence
about every order of arrivals and every draw. -/

open Sys2Proof Sys2Proof.Machine

/-! ### Encoding -/

/-- Decode and encode agree on every well-formed instruction, every operand at every value (rules R91 to R97). -/
def Obligations.DecodeEncodeAgree : Prop :=
  ∀ i : Instr, i.wellFormed = true → decode (encode i) = .ok i

/-- Each word has one meaning: a word that decodes to an instruction is that instruction's word (rules R95 to R97). -/
def Obligations.EncodeDecodeAgree : Prop :=
  ∀ (w : Word) (i : Instr), decode w = .ok i → i.wellFormed = true ∧ encode i = w

/-- Rule R101 whole: the five items list the illegal words; every other word is one legal instruction; an illegal word that is
fetched and executed raises the fault; the fixed ROM holds no illegal word. -/
def Obligations.IllegalWordsAreTheFiveItems : Prop :=
  (∀ w : Word, illegalWord w = true ↔
    (w.toNat ≥ 0xA800 ∨
     (w.toNat / 2048 ≠ 1 ∧ w.toNat / 2048 ≠ 13 ∧ w.toNat / 2048 ≠ 15 ∧ w.toNat % 2048 ≠ 0) ∨
     (w.toNat / 2048 = 1 ∧ 10 ≤ w.toNat / 64 % 16) ∨
     (w.toNat / 2048 = 13 ∧ (5 ≤ w.toNat / 256 % 8 ∨ (w.toNat / 128 % 2 = 1 ∧ w.toNat % 128 ≠ 0))) ∨
     (w.toNat / 2048 = 15 ∧ (w.toNat / 4 % 512 ≠ 0 ∨ 2 ≤ w.toNat % 4)))) ∧
  (∀ w : Word, illegalWord w = false ↔ ∃ i : Instr, i.legal = true ∧ decode w = .ok i) ∧
  (∀ (s : State) (w : Word), s.nextWord = some w → illegalWord w = true → step s = .next (s.turnTaken.lockedBy w)) ∧
  (∀ (c : Config) (a : RomAddr), illegalWord (romWord c a.toNat) = false)

/-- Words of every format, written from the tables of rules R91 to R94, and what they decode to. -/
def Obligations.WordsOfEachFormatDecode : Prop :=
  decode 0x0C57 = .ok (.br true .pbe 0x17) ∧ decode 0x0A7F = .ok (.br false .imd 0x3F) ∧
  decode 0x6902 = .ok (.blink .lonc false 2) ∧ decode 0x6C80 = .ok (.blink .mack true 0) ∧
  decode 0x7801 = .ok (.delay .settle) ∧ decode 0xA000 = .ok .sleep ∧ decode 0x2800 = .ok .sense ∧
  decode 0x1800 = .ok .nvmst ∧ decode 0x5800 = .ok .modeadv ∧ decode 0x4000 = .ok .mtclamp

/-! ### One step of USEQ -/

/-- When the word at PC decodes to an instruction and USEQ is free to execute it, the step is `exec` of that instruction, with
only the environment's turn taken off its list around it (rule R226). -/
def Obligations.StepRunsDecodedInstruction : Prop :=
  ∀ (s : State) (i : Instr), s.useqTurn = true → s.locked = false → (s.ie && (s.tpend || s.ppend)) = false →
    s.sleeping = false → decode (s.romFetch s.pc) = .ok i →
    i.wellFormed = true ∧ step s = exec i s.turnTaken ∧
      s.turnTaken = { s with env := { s.env with turns := s.env.turns.tail } }

/-- The order of the cases of rule R226: locked first, then a service, then sleep; in none of them is an instruction
executed. That a locked or sleeping block's step, where rule R226 says "no step", answers the same state with the turn used is
the model's choice (log 8). -/
def Obligations.StepDoesNotExecuteWhenLockedServicingOrAsleep : Prop :=
  ∀ s : State, s.useqTurn = true →
    (s.locked = true → s.nextInstr = none ∧ step s = .next s.turnTaken) ∧
    (s.locked = false → s.ie = true → s.tpend = true → s.nextInstr = none ∧
      step s = .next { s.turnTaken with tpend := false, srf := false, sleeping := false }) ∧
    (s.locked = false → s.ie = true → s.tpend = false → s.ppend = true → s.nextInstr = none ∧
      step s = .next { s.turnTaken with ppend := false, pbe := true, sleeping := false }) ∧
    (s.locked = false → (s.ie = false ∨ (s.tpend = false ∧ s.ppend = false)) → s.sleeping = true →
      s.nextInstr = none ∧ step s = .next s.turnTaken)

/-- Every step of the model answers a next state. Where the spec says "no step" (rule R226) the model steps idly, its own choice
(log 8), and it takes the illegal-word fault as a next state, its own reading of rule R289 (log 9). -/
def Obligations.StepAlwaysAnswersNext : Prop :=
  ∀ s : State, ∃ t, step s = .next t

/-! ### Sequencer instructions -/

/-- NOP, rule R228: PC advances, from 0x3F to 0x00, and nothing else changes. -/
def Obligations.NopOnlyAdvances : Prop :=
  HasWord .nop 0x0000 ∧
  (∀ s : State, exec .nop s = .next { s with pc := s.pc + 1 }) ∧
  ∀ s : State, s.pc = 0x3F → exec .nop s = .next { s with pc := 0x00 }

/-- The three hints of rule R102 do nothing but advance PC. -/
def Obligations.HintsOnlyAdvance : Prop :=
  (HasWord .nop 0x0000 ∧ ∀ s : State, exec .nop s = .next { s with pc := s.pc + 1 }) ∧
  (∀ t : RomAddr, HasWord (.br true .alw t) (0x0C00 + t.setWidth 16) ∧
    ∀ s : State, exec (.br true .alw t) s = .next { s with pc := s.pc + 1 }) ∧
  (∀ p : PatternClass, HasWord (.blink p false 0) (0x6800 + 0x100 * p.code.setWidth 16) ∧
    ∀ s : State, exec (.blink p false 0) s = .next { s with pc := s.pc + 1 })

/-- DELAY only waits: PC advances and no other state changes, for both selectors (rules R100, R163). -/
def Obligations.DelayOnlyAdvances : Prop :=
  HasWord (.delay .debounce) 0x7800 ∧ HasWord (.delay .settle) 0x7801 ∧
  ∀ (d : DelaySel) (s : State), exec (.delay d) s = .next { s with pc := s.pc + 1 } ∧
    delayTime s.cfg d = (match d with | .debounce => s.cfg.debounceT | .settle => s.cfg.settleT)

/-- BR on ALW, PBE, SRF, SSP, SMD or LON, in every state: to T when the flag, inverted by N, is 1, else to the next word;
nothing else changes (rules R229, R230). -/
def Obligations.BranchOnFlag : Prop :=
  ∀ (s : State) (n : Bool) (c : Cond) (t : RomAddr), readsPolicy c = false →
    ((s.CondHolds c ∧ n = false) ∨ (¬ s.CondHolds c ∧ n = true) → exec (.br n c t) s = .next { s with pc := t }) ∧
    ((s.CondHolds c ∧ n = true) ∨ (¬ s.CondHolds c ∧ n = false) →
      exec (.br n c t) s = .next { s with pc := s.pc + 1 })

/-- BR on IMD, IEL, IFC or EFC, with MODE in the mode range, where the catalogue gives it a policy: the conditions are those of
rules R210 to R216. -/
def Obligations.BranchOnPolicy : Prop :=
  ∀ (s : State) (n : Bool) (c : Cond) (t : RomAddr), s.ModeInRange → readsPolicy c = true →
    ((s.CondHolds c ∧ n = false) ∨ (¬ s.CondHolds c ∧ n = true) → exec (.br n c t) s = .next { s with pc := t }) ∧
    ((s.CondHolds c ∧ n = true) ∨ (¬ s.CondHolds c ∧ n = false) →
      exec (.br n c t) s = .next { s with pc := s.pc + 1 })

/-- BR on any condition in any state, whatever the policy of a mode outside the range is: one of a branch and its inverse is
taken, and only PC changes (rule R229; the free policy is the model's choice, log 12). -/
def Obligations.BranchAndInverseSplit : Prop :=
  ∀ (s : State) (c : Cond) (t : RomAddr),
    (exec (.br false c t) s = .next { s with pc := t } ∧ exec (.br true c t) s = .next { s with pc := s.pc + 1 }) ∨
    (exec (.br false c t) s = .next { s with pc := s.pc + 1 } ∧ exec (.br true c t) s = .next { s with pc := t })

/-- EI, rule R232: IE is set, nothing else but PC changes, and a latch that is set is serviced before the next instruction. -/
def Obligations.EiEnablesAtOnce : Prop :=
  HasWord .ei 0x8000 ∧
  ∀ s : State, ∃ t, exec .ei s = .next t ∧ t = { s with ie := true, pc := s.pc + 1 } ∧
    (s.locked = false → s.tpend = true ∨ s.ppend = true → t.useqAction = .service)

/-- DI, rule R233: IE is cleared, nothing else but PC changes, and no latch is serviced while it stays cleared. -/
def Obligations.DiHoldsLatches : Prop :=
  HasWord .di 0x8800 ∧
  ∀ s : State, ∃ t, exec .di s = .next t ∧ t = { s with ie := false, pc := s.pc + 1 } ∧ t.useqAction ≠ .service

/-- SLEEP, rule R238: with no work pending the block goes to sleep, otherwise it does not; PC advances either way. -/
def Obligations.SleepOnlyWhenNothingPending : Prop :=
  HasWord .sleep 0xA000 ∧
  ∀ s : State,
    (s.pbe = false → s.srf = true → exec .sleep s = .next { s with sleeping := true, pc := s.pc + 1 }) ∧
    (s.pbe = true ∨ s.srf = false → exec .sleep s = .next { s with pc := s.pc + 1 })

/-- Asleep with IE = 0, no step but a reset wakes the block or moves PC: a hang (rule R239). The idle steps are the model's
choice (log 8). -/
def Obligations.AsleepWithInterruptsOffStays : Prop :=
  ∀ s t : State, s.sleeping = true → s.ie = false → s.resetTurn = false → step s = .next t →
    t = { s with tpend := t.tpend, ppend := t.ppend, env := t.env }

/-! ### Light-sensor capture -/

/-- CAL, rule R125, for every draw T: THR becomes the sum of the bounded count and the margin, saturating at SENSE_MAX; the
sense line ends driven low and the draw is used; no flag, no other register and no memory changes. -/
def Obligations.CalSetsThreshold : Prop :=
  HasWord .cal 0x2000 ∧
  ∀ (s : State) (T : Nat), s.dischargeDraw = T → ∃ t, exec .cal s = .next t ∧
    t.thr.toNat = min (min T (2 ^ 32 - 1) + s.cfg.calMargin) (2 ^ 32 - 1) ∧
    t = { s with
      thr := t.thr
      pins := { s.pins with senseOe := true, senseO := false }
      env := s.env.dischargeUsed
      pc := s.pc + 1 } ∧ SameMemory s t

/-- SENSE, rules R129 and R130, for every draw T: LON is 1 exactly when the bounded count is below THR, which is exactly when
T is below THR; the sense line ends driven low and the draw is used; nothing else changes. -/
def Obligations.SenseComparesWithThreshold : Prop :=
  HasWord .sense 0x2800 ∧
  ∀ (s : State) (T : Nat), s.dischargeDraw = T → ∃ t, exec .sense s = .next t ∧
    (t.lon = true ↔ min T s.thr.toNat < s.thr.toNat) ∧ (t.lon = true ↔ T < s.thr.toNat) ∧
    t = { s with
      lon := t.lon
      pins := { s.pins with senseOe := true, senseO := false }
      env := s.env.dischargeUsed
      pc := s.pc + 1 } ∧ SameMemory s t

/-- A draw is a free input: whatever the rest of the state, the environment can hold inputs that make the next draws any
values at all (rule R16; how the model holds them is its choice, log 7). -/
def Obligations.EveryDrawIsPossible : Prop :=
  ∀ (s : State) (T : Nat) (levels : Bool × Bool) (b : Byte), ∃ e : Environment, e.turns = s.env.turns ∧
    ({ s with env := e } : State).dischargeDraw = T ∧ ({ s with env := e } : State).buttonsDraw = levels ∧
    ({ s with env := e } : State).byteDraw = b

/-! ### The persistent store -/

/-- NVMLD, rule R141, on the byte b that the read returns: the stored byte, or any byte past the endurance (rules R75, R146). A
byte of the mode range is kept, 0xFF and every other byte give DEFAULT_MODE. Only MODE and PC change, and past the endurance
the draw is used. That the stored byte is still read when NVM_WRITES is NVM_ENDURANCE is the model's reading of rule R146
(log 15). -/
def Obligations.NvmldLoadsMode : Prop :=
  HasWord .nvmld 0x1000 ∧
  ∀ (s : State) (b : Byte), (s.nvmWrites ≤ s.cfg.nvmEndurance → b = s.nvm) →
    (s.cfg.nvmEndurance < s.nvmWrites → b = s.byteDraw) →
    ∃ t, exec .nvmld s = .next t ∧
      (b = 0xFF → t.mode.toNat = s.cfg.defaultMode) ∧
      (b.toNat < s.cfg.startMode ∨ s.cfg.modeCount ≤ b.toNat → t.mode.toNat = s.cfg.defaultMode) ∧
      (s.cfg.startMode ≤ b.toNat → b.toNat < s.cfg.modeCount → t.mode = b) ∧
      t = { s with mode := t.mode, env := s.envAfterNvmRead, pc := s.pc + 1 } ∧ SameMemory s t

/-- NVMST with IE = 0 on a store within its endurance (rule R143): the event, the byte and one write cycle; nothing else but PC
changes. That the store is still within its endurance when NVM_WRITES is NVM_ENDURANCE, and the byte of that write kept, is the
model's reading of rule R146 (log 15). -/
def Obligations.NvmstStoresMode : Prop :=
  HasWord .nvmst 0x1800 ∧
  ∀ s : State, s.ie = false → s.nvmWrites ≤ s.cfg.nvmEndurance → ∃ t, exec .nvmst s = .next t ∧
    t = { s with
      nvm := s.mode
      nvmWrites := s.nvmWrites + 1
      trace := s.trace ++ [.nvmWrite s.mode]
      pc := s.pc + 1 } ∧ SameRom s t

/-- NVMST with IE = 1 leaves any byte: each byte b is left for some input of the environment, and in every state the event and
the write cycle happen and one draw is used (rule R144). -/
def Obligations.NvmstWithInterruptsOnLeavesAnyByte : Prop :=
  (∀ (s : State) (b : Byte), s.ie = true → ∃ (e : Environment) (t : State),
    exec .nvmst { s with env := e } = .next t ∧ t.nvm = b) ∧
  ∀ s : State, s.ie = true → ∃ t, exec .nvmst s = .next t ∧ t.nvm = s.byteDraw ∧
    t = { s with
      nvm := t.nvm
      nvmWrites := s.nvmWrites + 1
      trace := s.trace ++ [.nvmWrite s.mode]
      env := s.env.bytesUsed
      pc := s.pc + 1 } ∧ SameRom s t

/-- Past the endurance an NVMST leaves any byte whatever IE is; the event and the write cycle still happen and one draw is used (rule R146; that the
limit is compared with the count before the write is the model's reading, log 15). -/
def Obligations.WornStoreKeepsNothing : Prop :=
  ∀ s : State, s.cfg.nvmEndurance < s.nvmWrites → ∃ t, exec .nvmst s = .next t ∧ t.nvm = s.byteDraw ∧
    t = { s with
      nvm := t.nvm
      nvmWrites := s.nvmWrites + 1
      trace := s.trace ++ [.nvmWrite s.mode]
      env := s.env.bytesUsed
      pc := s.pc + 1 } ∧ SameRom s t

/-- Power that fails during a step resets the block at once. An NVMST is cut: any byte, with the event and the write cycle (rule
R145, decision D26). A PULSE has its event in the trace already (rule R161), and so has a BLINK; a CAL or SENSE has taken its
draw. At every other step it is a reset and nothing more (rule R299). Of BLINK, CAL, SENSE and the steps that are no timed
instruction this is the model's reading (log 14). -/
def Obligations.PowerLossCutsWrite : Prop :=
  ∀ (s : State) (ts : List Turn), s.env.turns = .powerLoss :: ts → ∃ t, step s = .next t ∧ t.HasResetValues ∧
    t.cfg = s.cfg ∧ SameRom s t ∧
    (∀ i : Instr, s.locked = false → (s.ie && (s.tpend || s.ppend)) = false → s.sleeping = false →
      decode (s.romFetch s.pc) = .ok i →
      (i = .nvmst → t.nvm = s.byteDraw ∧ t.nvmWrites = s.nvmWrites + 1 ∧
        t.trace = s.trace ++ [.nvmWrite s.mode, .reset] ∧ t.env = { s.env.bytesUsed with turns := ts }) ∧
      (i ≠ .nvmst → t.nvm = s.nvm ∧ t.nvmWrites = s.nvmWrites) ∧
      (i = .pulse → t.trace = s.trace ++ [.pulse, .reset] ∧ t.env = { s.env with turns := ts }) ∧
      (∀ p b k, i = .blink p b k → t.env = { s.env with turns := ts } ∧ t.trace =
        s.trace ++ (if s.blinkCount b k = 0 then [.reset] else [.blink p (s.blinkCount b k), .reset])) ∧
      (i = .cal ∨ i = .sense → t.trace = s.trace ++ [.reset] ∧ t.env = { s.env.dischargeUsed with turns := ts }) ∧
      (i ≠ .nvmst → i ≠ .pulse → (∀ p b k, i ≠ .blink p b k) → i ≠ .cal → i ≠ .sense →
        t.trace = s.trace ++ [.reset] ∧ t.env = { s.env with turns := ts })) ∧
    (s.instrAtHand = none → t.nvm = s.nvm ∧ t.nvmWrites = s.nvmWrites ∧ t.trace = s.trace ++ [.reset] ∧
      t.env = { s.env with turns := ts }) ∧
    (s.instrAtHand = none ↔ s.locked = true ∨ (s.ie && (s.tpend || s.ppend)) = true ∨ s.sleeping = true ∨
      ∃ e, decode (s.romFetch s.pc) = .error e)

/-! ### Pulse sequencer -/

/-- BLINK with S = 0 and K at least 1: one event of the class and the count, the indicator ends off, nothing else but PC
changes (rule R156). -/
def Obligations.BlinkImmediateEmits : Prop :=
  ∀ (s : State) (p : PatternClass) (k : BitVec 7), 1 ≤ k.toNat →
    exec (.blink p false k) s = .next { s with
      trace := s.trace ++ [.blink p k.toNat]
      pins := { s.pins with ind := false }
      pc := s.pc + 1 }

/-- BLINK with S = 1, from every mode: the count n is MODE - START_MODE + 1 for a mode not below START_MODE (rules R156, R159);
for one below it n is any number (the model's choice, log 13), and a count of 0 emits nothing. In the mode range n is at least 1
and at most the number of modes. -/
def Obligations.BlinkModePositionEmits : Prop :=
  ∀ (s : State) (p : PatternClass), ∃ n : Nat,
    (s.cfg.startMode ≤ s.mode.toNat → n = s.mode.toNat - s.cfg.startMode + 1) ∧
    (s.ModeInRange → 1 ≤ n ∧ n ≤ s.cfg.modeCount - s.cfg.startMode) ∧
    exec (.blink p true 0) s = .next (if n = 0 then { s with pc := s.pc + 1 } else { s with
      trace := s.trace ++ [.blink p n]
      pins := { s.pins with ind := false }
      pc := s.pc + 1 })

/-- A BLINK term with S = 1 and K not zero stands for an illegal word and raises the fault before any pin changes (rule R156,
Faults; the term is never decoded, log 11). -/
def Obligations.BlinkWithBothCountsIsIllegal : Prop :=
  ∀ (s : State) (p : PatternClass) (k : BitVec 7), k ≠ 0 →
    illegalWord (encode (.blink p true k)) = true ∧
    exec (.blink p true k) s = .next (s.lockedBy (encode (.blink p true k)))

/-- PULSE, rules R161 and R162: one event, the actuator ends off, whatever IE is; nothing else but PC changes. -/
def Obligations.PulseEmits : Prop :=
  HasWord .pulse 0x7000 ∧
  ∀ s : State, exec .pulse s = .next { s with
    trace := s.trace ++ [.pulse]
    pins := { s.pins with act := false }
    pc := s.pc + 1 }

/-- FIRE is four words: at most one blink event, then one pulse; it ends with IE = 1 whatever IE was (rules R105, R166,
R167). -/
def Obligations.FireEmitsOnePulse : Prop :=
  ∀ s : State, (asmFire s.cfg).map encode = [0x6B00 + s.cfg.nPre.setWidth 16, 0x8800, 0x7000, 0x8000] ∧
    ∃ t, execAll (asmFire s.cfg) s = .next t ∧
      t = { s with ie := true, trace := t.trace, pins := t.pins, pc := s.pc + 4 } ∧ t.pins.act = false ∧
      (s.cfg.nPre = 0 → t.trace = s.trace ++ [.pulse]) ∧
      (s.cfg.nPre ≠ 0 → t.trace = s.trace ++ [.blink .pre s.cfg.nPre.toNat, .pulse])

/-! ### Buttons and mode cycling -/

/-- SAMPLE, rule R178: both flags take the asserted levels drawn at one instant, which are the port levels under the polarity
BTN_ACTIVE_LOW (rule R58); nothing else but PC and the used draw changes. -/
def Obligations.SampleCapturesLevels : Prop :=
  HasWord .sample 0x6000 ∧
  ∀ (s : State) (p m : Bool), s.buttonsDraw = (p, m) → ∃ t, exec .sample s = .next t ∧ t.ssp = p ∧ t.smd = m ∧
    (p = true ↔ s.buttonPinsDraw.spray ≠ s.cfg.btnActiveLow) ∧ (m = true ↔ s.buttonPinsDraw.mode ≠ s.cfg.btnActiveLow) ∧
    t = { s with ssp := t.ssp, smd := t.smd, env := s.env.buttonsUsed, pc := s.pc + 1 } ∧ SameMemory s t

/-- PBECLR (rule R181) and SRFSET (rule R209): each writes its one flag and PC. -/
def Obligations.FlagInstructionsWriteOneFlag : Prop :=
  HasWord .pbeclr 0x9800 ∧ HasWord .srfset 0x9000 ∧
  ∀ s : State, exec .pbeclr s = .next { s with pbe := false, pc := s.pc + 1 } ∧
    exec .srfset s = .next { s with srf := true, pc := s.pc + 1 }

/-- MODEADV, rule R183: the next mode, START_MODE after the last mode and from outside the range; nothing else but PC
changes. -/
def Obligations.ModeadvAdvancesAndWraps : Prop :=
  HasWord .modeadv 0x5800 ∧
  ∀ s : State, ∃ t, exec .modeadv s = .next t ∧
    (s.mode.toNat < s.cfg.startMode ∨ s.cfg.modeCount ≤ s.mode.toNat + 1 → t.mode.toNat = s.cfg.startMode) ∧
    (s.cfg.startMode ≤ s.mode.toNat → s.mode.toNat + 1 < s.cfg.modeCount → t.mode.toNat = s.mode.toNat + 1) ∧
    t = { s with mode := t.mode, pc := s.pc + 1 } ∧ SameMemory s t

/-- Mode cycling is a cyclic permutation of the mode range (rule R186): k applications move k places round the range and never
leave it, and MODE_COUNT - START_MODE applications return the mode. -/
def Obligations.ModeCyclingIsCyclic : Prop :=
  ∀ s : State, s.ModeInRange →
    (∀ k : Nat, ∃ t, execAll (List.replicate k .modeadv) s = .next t ∧ t.ModeInRange ∧
      t.mode.toNat = s.cfg.startMode +
        (s.mode.toNat - s.cfg.startMode + k) % (s.cfg.modeCount - s.cfg.startMode)) ∧
    ∃ t, execAll (List.replicate (s.cfg.modeCount - s.cfg.startMode) .modeadv) s = .next t ∧ t.mode = s.mode

/-! ### Counters -/

/-- MTINC, rules R197 and R198: one more, never past MAX_INT = max(IT[0], IT[1], IT[2]), never wrapping; nothing else but PC
changes. -/
def Obligations.MtincSaturates : Prop :=
  HasWord .mtinc 0x3000 ∧
  ∀ s : State, ∃ t, exec .mtinc s = .next t ∧
    (s.mt.toNat + 1 > max s.cfg.itShort.toNat (max s.cfg.itMedium.toNat s.cfg.itLong.toNat) →
      t.mt.toNat = max s.cfg.itShort.toNat (max s.cfg.itMedium.toNat s.cfg.itLong.toNat)) ∧
    (s.mt.toNat + 1 ≤ max s.cfg.itShort.toNat (max s.cfg.itMedium.toNat s.cfg.itLong.toNat) →
      t.mt.toNat = s.mt.toNat + 1) ∧
    t = { s with mt := t.mt, pc := s.pc + 1 } ∧ SameMemory s t

/-- MTCLAMP, rule R201: the smaller of MT and MAX_INT; nothing else but PC changes, and nothing but PC when MT is within
MAX_INT. -/
def Obligations.MtclampBounds : Prop :=
  HasWord .mtclamp 0x4000 ∧
  ∀ s : State, ∃ t, exec .mtclamp s = .next t ∧
    t.mt.toNat = min s.mt.toNat (max s.cfg.itShort.toNat (max s.cfg.itMedium.toNat s.cfg.itLong.toNat)) ∧
    (s.mt.toNat ≤ max s.cfg.itShort.toNat (max s.cfg.itMedium.toNat s.cfg.itLong.toNat) → t.mt = s.mt) ∧
    t = { s with mt := t.mt, pc := s.pc + 1 } ∧ SameMemory s t

/-- MTCLR (rule R199) and LTCLR (rule R206): the counter is 0; nothing else but PC changes. -/
def Obligations.ClearsZeroTheCounter : Prop :=
  HasWord .mtclr 0x3800 ∧ HasWord .ltclr 0x5000 ∧
  ∀ s : State, exec .mtclr s = .next { s with mt := 0, pc := s.pc + 1 } ∧
    exec .ltclr s = .next { s with lt := 0, pc := s.pc + 1 }

/-- LTINC, rule R203: one more, never past MAX_LIGHT; nothing else but PC changes. -/
def Obligations.LtincSaturates : Prop :=
  HasWord .ltinc 0x4800 ∧
  ∀ s : State, ∃ t, exec .ltinc s = .next t ∧
    (s.lt.toNat + 1 > s.cfg.maxLight.toNat → t.lt.toNat = s.cfg.maxLight.toNat) ∧
    (s.lt.toNat + 1 ≤ s.cfg.maxLight.toNat → t.lt.toNat = s.lt.toNat + 1) ∧
    t = { s with lt := t.lt, pc := s.pc + 1 } ∧ SameMemory s t

/-- The saturation laws of rule R220: after n increments without reset a counter within its bound holds the smaller of the sum
and the bound. -/
def Obligations.SaturationLaws : Prop :=
  ∀ (s : State) (n : Nat),
    (s.mt.toNat ≤ maxInt s.cfg → ∃ t, execAll (List.replicate n .mtinc) s = .next t ∧
      t.mt.toNat = min (s.mt.toNat + n) (maxInt s.cfg)) ∧
    (s.lt.toNat ≤ s.cfg.maxLight.toNat → ∃ t, execAll (List.replicate n .ltinc) s = .next t ∧
      t.lt.toNat = min (s.lt.toNat + n) s.cfg.maxLight.toNat)

/-- After MTCLR the light-edge policy does not fire, in any mode: no second fire in one tick routine (rule R218). -/
def Obligations.NoEdgeFireAfterClear : Prop :=
  ∀ (s : State) (t : RomAddr), ∃ u, exec .mtclr s = .next u ∧ exec (.br false .efc t) u = .next { u with pc := u.pc + 1 }

/-- The consequences 1 to 3 of rule R219: GUARD ≥ MAX_INT or MAX_LIGHT ≤ MIN_LIGHT_ON disables the light-edge policy; an
interval of 0 has elapsed in every interval mode. -/
def Obligations.ConfigurationConsequences : Prop :=
  ∀ (s : State) (t : RomAddr),
    (maxInt s.cfg ≤ s.cfg.guardTicks.toNat → s.mt.toNat ≤ maxInt s.cfg →
      exec (.br false .efc t) s = .next { s with pc := s.pc + 1 }) ∧
    (s.cfg.maxLight.toNat ≤ s.cfg.minLightOn.toNat → s.lt.toNat ≤ s.cfg.maxLight.toNat →
      exec (.br false .efc t) s = .next { s with pc := s.pc + 1 }) ∧
    (s.ModeInRange → s.catalogPolicy ≠ .none → s.catalogInterval = 0 →
      exec (.br false .iel t) s = .next { s with pc := t })

/-! ### The fault -/

/-- The reserved rows: every word of opcode 0x15 to 0x1F raises the illegal-word fault, which records PC and the word, locks
the block, puts the pins in their idle levels and leaves PC (rules R96, R289). -/
def Obligations.ReservedRowsRaiseFault : Prop :=
  ∀ (s : State) (low : BitVec 11),
    exec (.reserved15 low) s = .next (s.lockedBy (0xA800 + low.setWidth 16)) ∧
    exec (.reserved16 low) s = .next (s.lockedBy (0xB000 + low.setWidth 16)) ∧
    exec (.reserved17 low) s = .next (s.lockedBy (0xB800 + low.setWidth 16)) ∧
    exec (.reserved18 low) s = .next (s.lockedBy (0xC000 + low.setWidth 16)) ∧
    exec (.reserved19 low) s = .next (s.lockedBy (0xC800 + low.setWidth 16)) ∧
    exec (.reserved1A low) s = .next (s.lockedBy (0xD000 + low.setWidth 16)) ∧
    exec (.reserved1B low) s = .next (s.lockedBy (0xD800 + low.setWidth 16)) ∧
    exec (.reserved1C low) s = .next (s.lockedBy (0xE000 + low.setWidth 16)) ∧
    exec (.reserved1D low) s = .next (s.lockedBy (0xE800 + low.setWidth 16)) ∧
    exec (.reserved1E low) s = .next (s.lockedBy (0xF000 + low.setWidth 16)) ∧
    exec (.reserved1F low) s = .next (s.lockedBy (0xF800 + low.setWidth 16))

/-- While locked, no step but a reset changes anything except that arrivals still set the latches; only a reset unlocks (rules
R47, R289). The idle steps are the model's choice (log 8). -/
def Obligations.LockedUntilReset : Prop :=
  ∀ s t : State, s.locked = true → step s = .next t →
    (s.resetTurn = false → t = { s with tpend := t.tpend, ppend := t.ppend, env := t.env } ∧
      (s.tpend = true → t.tpend = true) ∧ (s.ppend = true → t.ppend = true)) ∧
    (s.resetTurn = true → t.locked = false)

/-! ### Interrupts -/

/-- An arrival sets its latch and does nothing else, in every state, also with IE = 0, asleep or locked; a second one changes
nothing more (rules R281, R282). -/
def Obligations.ArrivalsSetLatchesAndCoalesce : Prop :=
  ∀ (s : State) (ts : List Turn),
    (s.env.turns = .tick :: ts → step s = .next { s with tpend := true, env := { s.env with turns := ts } }) ∧
    (s.env.turns = .pchg :: ts → step s = .next { s with ppend := true, env := { s.env with turns := ts } }) ∧
    s.arriveTick.arriveTick = s.arriveTick ∧ s.arrivePchg.arrivePchg = s.arrivePchg

/-- With both latches set and IE = 1 the tick is serviced first and the pin change at the next step, before any instruction;
the order changes no state (rule R287). -/
def Obligations.TickServicedBeforePinChange : Prop :=
  (∀ s : State, s.env.turns = [] → s.locked = false → s.ie = true → s.tpend = true → s.ppend = true →
    ∃ u, step s = .next u ∧ u = { s with tpend := false, srf := false, sleeping := false } ∧
      step u = .next { s with tpend := false, srf := false, ppend := false, pbe := true, sleeping := false }) ∧
  ∀ s : State, s.serviceTick.servicePchg = s.servicePchg.serviceTick

/-- A service during a timed instruction leaves the same state as the same service just after it: CAL, SENSE, BLINK, PULSE,
DELAY in every state, NVMST with IE = 0 (rule R227). -/
def Obligations.TimedInstructionsCommuteWithServices : Prop :=
  ∀ (s : State) (i : Instr),
    (i = .cal ∨ i = .sense ∨ i = .pulse ∨ (∃ d, i = .delay d) ∨ (∃ p b k, i = .blink p b k ∧ i.wellFormed = true) ∨
      (i = .nvmst ∧ s.ie = false)) →
    ∃ t, exec i s = .next t ∧ exec i s.serviceTick = .next t.serviceTick ∧ exec i s.servicePchg = .next t.servicePchg

/-! ### Reset -/

/-- Power-on reset at any step: every register and flag at its reset value, the store and its count kept, the event recorded
(rules R320, R321). -/
def Obligations.PowerOnResetSetsEveryRegister : Prop :=
  ∀ (s : State) (ts : List Turn), s.env.turns = .powerOnReset :: ts → ∃ t, step s = .next t ∧ t.HasResetValues ∧
    t.nvm = s.nvm ∧ t.nvmWrites = s.nvmWrites ∧ t.trace = s.trace ++ [.reset] ∧ t.cfg = s.cfg ∧
    t.env = { s.env with turns := ts } ∧ SameRom s t

/-- The state right after reset holds the values of rule R321; the store never written and the environment with nothing to do
are the model's choice (logs 6, 7, 17). -/
def Obligations.ResetStateHasResetValues : Prop :=
  State.reset.HasResetValues ∧ State.reset.nvm = 0xFF ∧ State.reset.nvmWrites = 0 ∧ State.reset.trace = [.reset] ∧
    State.reset.rom = [] ∧ State.reset.env.turns = []

/-- STATUS packs the ten flags at the bits of rule R37, and PINS the four pins at those of rule R48; STATUS is 0x002 after
reset. -/
def Obligations.StatusAndPinsBits : Prop :=
  (∀ s : State, s.status.getLsbD 0 = s.pbe ∧ s.status.getLsbD 1 = s.srf ∧ s.status.getLsbD 2 = s.ie ∧
    s.status.getLsbD 3 = s.tpend ∧ s.status.getLsbD 4 = s.ppend ∧ s.status.getLsbD 5 = s.ssp ∧
    s.status.getLsbD 6 = s.smd ∧ s.status.getLsbD 7 = s.lon ∧ s.status.getLsbD 8 = s.sleeping ∧
    s.status.getLsbD 9 = s.locked ∧ s.pinsWord.getLsbD 0 = s.pins.act ∧ s.pinsWord.getLsbD 1 = s.pins.ind ∧
    s.pinsWord.getLsbD 2 = s.pins.senseOe ∧ s.pinsWord.getLsbD 3 = s.pins.senseO) ∧
  (∀ s : State, s.powerOnReset.status = 0x002 ∧ s.powerOnReset.pinsWord = 0x4)

/-- Boot, rule R323: from the reset values, with the hardware's ROM and no arrivals, four steps of USEQ reach the loop head
with the mode of the byte that the store gives, the threshold calibrated from the first discharge time drawn after that read,
interrupts on and the boot blink in the trace; the draws are used and nothing else changes. That the store gives its own byte
when NVM_WRITES is NVM_ENDURANCE is the model's reading of rule R146 (log 15). -/
def Obligations.BootReachesLoopHead : Prop :=
  ∀ (s : State) (b : Byte) (T : Nat), s.HasResetValues → s.rom = [] → s.env.turns = [] →
    (s.nvmWrites ≤ s.cfg.nvmEndurance → b = s.nvm) → (s.cfg.nvmEndurance < s.nvmWrites → b = s.byteDraw) →
    ({ s with env := s.envAfterNvmRead } : State).dischargeDraw = T →
    ∃ t, Host.Core.run Sys2Proof.core 4 s = .next t ∧ t.ModeInRange ∧
      (s.cfg.startMode ≤ b.toNat → b.toNat < s.cfg.modeCount → t.mode = b) ∧
      (b.toNat < s.cfg.startMode ∨ s.cfg.modeCount ≤ b.toNat → t.mode.toNat = s.cfg.defaultMode) ∧
      t.thr.toNat = min (min T (2 ^ 32 - 1) + s.cfg.calMargin) (2 ^ 32 - 1) ∧
      t = { s with
        mode := t.mode
        thr := t.thr
        ie := true
        trace := s.trace ++ (if s.cfg.nBoot = 0 then [] else [.blink .boot s.cfg.nBoot.toNat])
        pc := 0x04
        env := s.envAfterNvmRead.dischargeUsed }

/-! ### Invariants and whole-machine rules -/

/-- Every step keeps the mode range, the saturation bounds, the idle pins and the ROM's canonical form, from every state that
has them (rules R54 to R57, R220). -/
def Obligations.StepKeepsInvariant : Prop :=
  ∀ s t : State, s.Inv → step s = .next t → t.Inv

/-- The state right after reset has both invariants: the data invariant of rules R54 to R57, and the control invariant of the
hardware's own ROM. -/
def Obligations.ResetHasInvariants : Prop := State.reset.Inv ∧ State.reset.FixedRomInv

/-- With the hardware's own ROM, every step keeps: PC at a used word, IE as the table of rule R250 has it at PC, never locked,
asleep only after the SLEEP with IE = 1 (rules R57, R256, R263, R340). -/
def Obligations.StepKeepsFixedRomInvariant : Prop :=
  ∀ s t : State, s.FixedRomInv → step s = .next t → t.FixedRomInv ∧ (t.sleeping = true → t.ie = true)

/-- With the hardware's own ROM no illegal word is met; IE = 0 at every PULSE, NVMST, BLINK MACK, DELAY SETTLE and EI; IE = 1
at every DI, SLEEP, BLINK PRE and DELAY DEBOUNCE (rule R256 items 1, 2 and 4; rules R334, R335). -/
def Obligations.FixedRomBracketsPulseAndWrite : Prop :=
  ∀ s : State, s.FixedRomInv →
    (∀ w, s.nextWord = some w → illegalWord w = false) ∧
    (s.nextInstr = some .pulse ∨ s.nextInstr = some .nvmst ∨ s.nextInstr = some (.blink .mack true 0) ∨
      s.nextInstr = some (.delay .settle) ∨ s.nextInstr = some .ei → s.ie = false) ∧
    (s.nextInstr = some .di ∨ s.nextInstr = some .sleep ∨ (∃ b k, s.nextInstr = some (.blink .pre b k)) ∨
      s.nextInstr = some (.delay .debounce) → s.ie = true)

/-- No step writes the configuration or any word of the control ROM (rules R59, R71). -/
def Obligations.ConfigurationAndRomAreNeverWritten : Prop :=
  ∀ s t : State, step s = .next t → t.cfg = s.cfg ∧ t.rom = s.rom ∧ SameRom s t

/-- Which steps write the data registers: MODE by NVMLD and MODEADV, MT by its three instructions, LT by its two, THR by CAL
alone, and resets (rules R33 to R36). -/
def Obligations.DataRegisterWriters : Prop :=
  ∀ s t : State, s.resetTurn = false → step s = .next t →
    (t.mode ≠ s.mode → s.nextInstr = some .nvmld ∨ s.nextInstr = some .modeadv) ∧
    (t.mt ≠ s.mt → s.nextInstr = some .mtinc ∨ s.nextInstr = some .mtclr ∨ s.nextInstr = some .mtclamp) ∧
    (t.lt ≠ s.lt → s.nextInstr = some .ltinc ∨ s.nextInstr = some .ltclr) ∧
    (t.thr ≠ s.thr → s.nextInstr = some .cal)

/-- Which steps write the flags: PBE and SRF each have one service and one instruction, IE is written by EI and DI alone, the
sampled flags by SAMPLE and SENSE, each latch by its arrival and its own service, SLEEPING by SLEEP and services, LOCKED by an
illegal word, and all of them by resets. With both latches set the service is the tick's (rules R38 to R47, R83, R287). -/
def Obligations.FlagWriters : Prop :=
  ∀ s t : State, s.resetTurn = false → step s = .next t →
    (s.pbe = false → t.pbe = true → s.servicesNext = true ∧ s.tpend = false ∧ s.ppend = true) ∧
    (s.pbe = true → t.pbe = false → s.nextInstr = some .pbeclr) ∧
    (s.srf = true → t.srf = false → s.servicesNext = true ∧ s.tpend = true) ∧
    (s.srf = false → t.srf = true → s.nextInstr = some .srfset) ∧
    (s.ie = false → t.ie = true → s.nextInstr = some .ei) ∧
    (s.ie = true → t.ie = false → s.nextInstr = some .di) ∧
    (t.ssp ≠ s.ssp ∨ t.smd ≠ s.smd → s.nextInstr = some .sample) ∧
    (t.lon ≠ s.lon → s.nextInstr = some .sense) ∧
    (s.tpend = false → t.tpend = true → s.env.turns.head? = some .tick) ∧
    (s.ppend = false → t.ppend = true → s.env.turns.head? = some .pchg) ∧
    (s.tpend = true → t.tpend = false → s.servicesNext = true ∧ t.srf = false ∧ t.ppend = s.ppend ∧ t.pbe = s.pbe) ∧
    (s.ppend = true → t.ppend = false →
      s.servicesNext = true ∧ s.tpend = false ∧ t.pbe = true ∧ t.tpend = false ∧ t.srf = s.srf) ∧
    (s.sleeping = false → t.sleeping = true → s.nextInstr = some .sleep) ∧
    (s.sleeping = true → t.sleeping = false → s.servicesNext = true) ∧
    (s.locked = false → t.locked = true → ∃ w, s.nextWord = some w ∧ illegalWord w = true)

/-- Which steps write the store and the pins: the store only by NVMST, or a power loss that cuts one; a pin only by CAL, SENSE,
BLINK, PULSE, an illegal word or a reset; the trace only grows (rules R48, R49, R60, R79). -/
def Obligations.StorePinAndTraceWriters : Prop :=
  ∀ s t : State, step s = .next t →
    (t.nvm ≠ s.nvm ∨ t.nvmWrites ≠ s.nvmWrites → s.nextInstr = some .nvmst ∨
      (s.env.turns.head? = some .powerLoss ∧ s.instrAtHand = some .nvmst)) ∧
    (t.pins ≠ s.pins → s.resetTurn = true ∨ s.nextInstr = some .cal ∨ s.nextInstr = some .sense ∨
      s.nextInstr = some .pulse ∨ (∃ p b k, s.nextInstr = some (.blink p b k)) ∨
      ∃ w, s.nextWord = some w ∧ illegalWord w = true) ∧
    ∃ es : List Event, t.trace = s.trace ++ es ∧ es.length ≤ 2

/-! ### The model's own conventions -/

/-- A configuration outside the constraints of rule R9 is refused, one inside them has a block whose first state has the reset
values (rule R14; how the refusal is given is the model's choice, log 3). -/
def Obligations.ConfigurationsOutsideConstraintsAreRefused : Prop :=
  ∀ p : Params,
    ((p.modeCount = p.startMode + p.profile.size ∧ p.modeCount ≤ 255 ∧ p.startMode ≤ p.defaultMode ∧
      p.defaultMode < p.modeCount ∧ p.modePolicy.length = p.profile.size ∧ p.modeLr.length = p.profile.size ∧
      ∀ k, k < p.modePolicy.length → p.modePolicy.getD k .none ≠ .none → p.tierOffset ≤ p.startMode + k) →
      ∃ t, State.build p = .next t ∧ t.cfg.toParams = p ∧ t.HasResetValues) ∧
    (¬ (p.modeCount = p.startMode + p.profile.size ∧ p.modeCount ≤ 255 ∧ p.startMode ≤ p.defaultMode ∧
      p.defaultMode < p.modeCount ∧ p.modePolicy.length = p.profile.size ∧ p.modeLr.length = p.profile.size ∧
      ∀ k, k < p.modePolicy.length → p.modePolicy.getD k .none ≠ .none → p.tierOffset ≤ p.startMode + k) →
      State.build p = .refused .configurationRefused)

/-- A word placed with `withFetchWord` is the one the very next step executes or, when it is illegal, locks the block on (the
model's convention for tests, log 5; rule R72). -/
def Obligations.PlacedWordRunsNext : Prop :=
  ∀ (s : State) (w : Word), s.rom.wf s.cfg →
    (s.withFetchWord 16 w.toNat).romFetch s.pc = w ∧
    (s.withFetchWord 16 w.toNat).rom.wf s.cfg ∧
    (∀ a : RomAddr, a ≠ s.pc → (s.withFetchWord 16 w.toNat).romFetch a = s.romFetch a) ∧
    (s.withFetchWord 16 w.toNat).nextWord = some w
end

