-- ==== Sys2Proof/Laws/Encoding.lean ====
section
/-! SUPPORT. What the bit fields of the decoder read from the words of the encoder, and how a word is put together from its
fields. -/

namespace Sys2Proof

@[simp] theorem Cond.ofCode_code (c : Cond) : Cond.ofCode c.code = some c := by cases c <;> rfl

@[simp] theorem PatternClass.ofCode_code (p : PatternClass) : PatternClass.ofCode p.code = some p := by cases p <;> rfl

@[simp] theorem DelaySel.ofCode_code (d : DelaySel) : DelaySel.ofCode d.code = some d := by cases d <;> rfl

/-- A code that names a condition is that condition's code. -/
theorem Cond.code_of_ofCode {b : BitVec 4} {c : Cond} (h : Cond.ofCode b = some c) : c.code = b := by
  revert b c
  decide

/-- A code that names a pattern class is that class's code. -/
theorem PatternClass.code_of_ofCode {b : BitVec 3} {p : PatternClass} (h : PatternClass.ofCode b = some p) :
    p.code = b := by
  revert b p
  decide

/-- A code that names a delay selector is that selector's code. -/
theorem DelaySel.code_of_ofCode {b : BitVec 2} {d : DelaySel} (h : DelaySel.ofCode b = some d) : d.code = b := by
  revert b d
  decide

/-! ### Words made of an opcode and the bits below it -/

@[simp] theorem opcodeField_reservedWord (op : BitVec 5) (low : BitVec 11) : opcodeField (reservedWord op low) = op := by
  ext i hi
  simp only [reservedWord, opcodeField, BitVec.getElem_extractLsb', BitVec.getLsbD_append]
  interval_cases i <;> simp

@[simp] theorem lowField_reservedWord (op : BitVec 5) (low : BitVec 11) : lowField (reservedWord op low) = low := by
  ext i hi
  simp only [reservedWord, lowField, BitVec.getElem_extractLsb', BitVec.getLsbD_append]
  simp [hi]

/-- A word is its opcode above its low bits. -/
theorem reservedWord_fields (w : Word) : reservedWord (opcodeField w) (lowField w) = w := by
  apply BitVec.eq_of_getLsbD_eq
  intro i hi
  simp only [reservedWord, opcodeField, lowField, BitVec.getLsbD_append, BitVec.getLsbD_extractLsb']
  interval_cases i <;> simp

/-! ### Format B -/

@[simp] theorem opcodeField_br (n : Bool) (c : Cond) (t : RomAddr) : opcodeField (encode (.br n c t)) = 0x01 := by
  ext i hi
  simp only [encode, opcodeField, BitVec.getElem_extractLsb', BitVec.getLsbD_append]
  interval_cases i <;> simp

@[simp] theorem negateField_br (n : Bool) (c : Cond) (t : RomAddr) : negateField (encode (.br n c t)) = n := by
  simp only [encode, negateField, BitVec.getLsbD_append]
  simp

@[simp] theorem conditionField_br (n : Bool) (c : Cond) (t : RomAddr) :
    conditionField (encode (.br n c t)) = c.code := by
  ext i hi
  simp only [encode, conditionField, BitVec.getElem_extractLsb', BitVec.getLsbD_append]
  interval_cases i <;> simp

@[simp] theorem targetField_br (n : Bool) (c : Cond) (t : RomAddr) : targetField (encode (.br n c t)) = t := by
  ext i hi
  simp only [encode, targetField, BitVec.getElem_extractLsb', BitVec.getLsbD_append]
  simp [hi]

/-- A word is its four format-B fields side by side. -/
theorem formatB_fields (w : Word) :
    opcodeField w ++ BitVec.ofBool (negateField w) ++ conditionField w ++ targetField w = w := by
  apply BitVec.eq_of_getLsbD_eq
  intro i hi
  simp only [opcodeField, negateField, conditionField, targetField, BitVec.getLsbD_append,
    BitVec.getLsbD_extractLsb']
  interval_cases i <;> simp

/-! ### Format K -/

@[simp] theorem opcodeField_blink (p : PatternClass) (s : Bool) (k : BitVec 7) :
    opcodeField (encode (.blink p s k)) = 0x0D := by
  ext i hi
  simp only [encode, opcodeField, BitVec.getElem_extractLsb', BitVec.getLsbD_append]
  interval_cases i <;> simp

@[simp] theorem patternField_blink (p : PatternClass) (s : Bool) (k : BitVec 7) :
    patternField (encode (.blink p s k)) = p.code := by
  ext i hi
  simp only [encode, patternField, BitVec.getElem_extractLsb', BitVec.getLsbD_append]
  interval_cases i <;> simp

@[simp] theorem sourceField_blink (p : PatternClass) (s : Bool) (k : BitVec 7) :
    sourceField (encode (.blink p s k)) = s := by
  simp only [encode, sourceField, BitVec.getLsbD_append]
  simp

@[simp] theorem countField_blink (p : PatternClass) (s : Bool) (k : BitVec 7) :
    countField (encode (.blink p s k)) = k := by
  ext i hi
  simp only [encode, countField, BitVec.getElem_extractLsb', BitVec.getLsbD_append]
  simp [hi]

/-- A word is its four format-K fields side by side. -/
theorem formatK_fields (w : Word) :
    opcodeField w ++ patternField w ++ BitVec.ofBool (sourceField w) ++ countField w = w := by
  apply BitVec.eq_of_getLsbD_eq
  intro i hi
  simp only [opcodeField, patternField, sourceField, countField, BitVec.getLsbD_append,
    BitVec.getLsbD_extractLsb']
  interval_cases i <;> simp

/-! ### Format D -/

/-- A word is its three format-D fields side by side. -/
theorem formatD_fields (w : Word) : opcodeField w ++ delayReservedField w ++ delayField w = w := by
  apply BitVec.eq_of_getLsbD_eq
  intro i hi
  simp only [opcodeField, delayReservedField, delayField, BitVec.getLsbD_append,
    BitVec.getLsbD_extractLsb']
  interval_cases i <;> simp

end Sys2Proof
end

