-- ==== Sys2Proof/Laws/Memory.lean ====
section
/-! SUPPORT. The control ROM: read after write, and the canonical form is kept. -/

namespace Sys2Proof.Machine

/-- Nothing is found at an address below every listed one. -/
theorem Memory.find_none {m : Memory} {d : Nat} (h : ∀ e ∈ m, d < e.1) : Memory.find d m = none := by
  induction m with
  | nil => rfl
  | cons f m ih =>
    obtain ⟨g, y⟩ := f
    have hg : d < g := h (g, y) (by simp)
    rw [Memory.find, if_neg (by omega)]
    exact ih fun e he => h e (List.mem_cons_of_mem _ he)

/-- Putting a word at an address changes what is found at that address alone. -/
theorem Memory.find_put {m : Memory} (hm : m.Pairwise fun x y => x.1 < y.1) (a b : Nat) (v : Option Word) :
    Memory.find b (Memory.put a v m) = if b = a then v else Memory.find b m := by
  induction m with
  | nil => cases v <;> simp [Memory.put, Memory.find]
  | cons e m ih =>
    obtain ⟨c, x⟩ := e
    obtain ⟨hlt, hm⟩ := List.pairwise_cons.mp hm
    have absent : ∀ d, d ≤ c → Memory.find d m = none := fun d hd =>
      Memory.find_none fun e he => lt_of_le_of_lt hd (hlt e he)
    unfold Memory.put
    split
    · rename_i hac
      have := absent a (by omega)
      cases v <;> simp only [Option.toList, List.map_nil, List.map_cons, List.nil_append, List.cons_append, Memory.find]
      all_goals split_ifs <;> simp_all
    · split
      · rename_i hac
        subst hac
        have := absent a (le_refl a)
        cases v <;> simp only [Option.toList, List.map_nil, List.map_cons, List.nil_append, List.cons_append, Memory.find]
        all_goals split_ifs <;> simp_all
      · rename_i hac
        simp only [Memory.find, ih hm]
        split_ifs <;> simp_all

/-- What a list holds after a word is put at an address: the old entries at other addresses, and the new one. -/
theorem Memory.mem_put {m : Memory} {a : Nat} {v : Option Word} {e : Nat × Word} (h : e ∈ Memory.put a v m) :
    e ∈ m ∨ (e.1 = a ∧ v = some e.2) := by
  induction m with
  | nil => cases v <;> simp_all [Memory.put]
  | cons f m ih =>
    obtain ⟨c, x⟩ := f
    unfold Memory.put at h
    split at h
    · cases v <;> simp_all
      rcases h with rfl | h <;> simp_all
    · split at h
      · cases v <;> simp_all
        rcases h with rfl | h <;> simp_all
      · rcases List.mem_cons.mp h with rfl | h
        · simp
        · rcases ih h with h | h <;> simp_all

/-- Putting a word at an address keeps the addresses rising. -/
theorem Memory.put_rising {m : Memory} (hm : m.Pairwise fun x y => x.1 < y.1) (a : Nat) (v : Option Word) :
    (Memory.put a v m).Pairwise fun x y => x.1 < y.1 := by
  induction m with
  | nil => cases v <;> simp [Memory.put]
  | cons f m ih =>
    obtain ⟨c, x⟩ := f
    obtain ⟨hlt, hm'⟩ := List.pairwise_cons.mp hm
    unfold Memory.put
    split
    · rename_i hac
      cases v with
      | none => simpa using hm
      | some w =>
        refine List.pairwise_cons.mpr ⟨?_, hm⟩
        intro e he
        rcases List.mem_cons.mp he with rfl | he
        · exact hac
        · exact lt_trans hac (hlt e he)
    · split
      · rename_i hac
        subst hac
        cases v with
        | none => simpa using hm'
        | some w => exact List.pairwise_cons.mpr ⟨hlt, hm'⟩
      · rename_i h1 h2
        refine List.pairwise_cons.mpr ⟨?_, ih hm'⟩
        intro e he
        rcases Memory.mem_put he with he | ⟨he, -⟩
        · exact hlt e he
        · simp only [he]
          omega

/-- A ROM with nothing listed is the hardware's (rule R250). -/
@[simp] theorem Memory.read_nil (c : Config) (a : RomAddr) : Memory.read c [] a = romWord c a.toNat := rfl

/-- A read after a write to the same address gives the word written. -/
theorem Memory.read_write_same {c : Config} {m : Memory} (hm : m.wf c) (a : RomAddr) (w : Word) :
    (m.write c a w).read c a = w := by
  unfold Memory.read Memory.write
  rw [Memory.find_put hm.1]
  split_ifs <;> simp_all

/-- A write leaves every other address alone. -/
theorem Memory.read_write_other {c : Config} {m : Memory} (hm : m.wf c) {a b : RomAddr} (h : b ≠ a) (w : Word) :
    (m.write c a w).read c b = m.read c b := by
  unfold Memory.read Memory.write
  rw [Memory.find_put hm.1, if_neg (by simpa [BitVec.toNat_inj] using h)]

/-- A write keeps the canonical form. -/
theorem Memory.write_wf {c : Config} {m : Memory} (hm : m.wf c) (a : RomAddr) (w : Word) : (m.write c a w).wf c := by
  refine ⟨Memory.put_rising hm.1 _ _, ?_⟩
  intro e he
  rcases Memory.mem_put he with he | ⟨ha, hv⟩
  · exact hm.2 e he
  · split_ifs at hv with hw
    simp only [Option.some.injEq] at hv
    subst hv
    exact ⟨by rw [ha]; exact a.isLt, by rw [ha]; exact hw⟩

/-- A ROM with nothing listed has the canonical form. -/
theorem Memory.nil_wf (c : Config) : Memory.wf c [] := ⟨List.Pairwise.nil, by simp⟩

/-- The ROM of the machine after reset has the canonical form. -/
theorem reset_rom_wf : State.reset.rom.wf State.reset.cfg := Memory.nil_wf _

/-- The image of the hardware's ROM has one word for each address (rule R70). -/
theorem romImage_length (c : Config) : (romImage c).length = 64 := rfl

end Sys2Proof.Machine
end

