-- ==== Sys2Proof/Laws/State.lean ====
section
/-! SUPPORT. What each named update of the state does to each field. -/

namespace Sys2Proof.Machine

variable (s : State)

/-! ### advance -/

@[simp] theorem State.advance_mode : s.advance.mode = s.mode := rfl
@[simp] theorem State.advance_mt : s.advance.mt = s.mt := rfl
@[simp] theorem State.advance_lt : s.advance.lt = s.lt := rfl
@[simp] theorem State.advance_thr : s.advance.thr = s.thr := rfl
@[simp] theorem State.advance_pbe : s.advance.pbe = s.pbe := rfl
@[simp] theorem State.advance_srf : s.advance.srf = s.srf := rfl
@[simp] theorem State.advance_ie : s.advance.ie = s.ie := rfl
@[simp] theorem State.advance_tpend : s.advance.tpend = s.tpend := rfl
@[simp] theorem State.advance_ppend : s.advance.ppend = s.ppend := rfl
@[simp] theorem State.advance_ssp : s.advance.ssp = s.ssp := rfl
@[simp] theorem State.advance_smd : s.advance.smd = s.smd := rfl
@[simp] theorem State.advance_lon : s.advance.lon = s.lon := rfl
@[simp] theorem State.advance_sleeping : s.advance.sleeping = s.sleeping := rfl
@[simp] theorem State.advance_locked : s.advance.locked = s.locked := rfl
@[simp] theorem State.advance_pc : s.advance.pc = s.pc + 1 := rfl
@[simp] theorem State.advance_pins : s.advance.pins = s.pins := rfl
@[simp] theorem State.advance_nvm : s.advance.nvm = s.nvm := rfl
@[simp] theorem State.advance_nvmWrites : s.advance.nvmWrites = s.nvmWrites := rfl
@[simp] theorem State.advance_trace : s.advance.trace = s.trace := rfl
@[simp] theorem State.advance_rom : s.advance.rom = s.rom := rfl
@[simp] theorem State.advance_cfg : s.advance.cfg = s.cfg := rfl
@[simp] theorem State.advance_env : s.advance.env = s.env := rfl

/-! ### jump -/

@[simp] theorem State.jump_mode (t : RomAddr) : (s.jump t).mode = s.mode := rfl
@[simp] theorem State.jump_mt (t : RomAddr) : (s.jump t).mt = s.mt := rfl
@[simp] theorem State.jump_lt (t : RomAddr) : (s.jump t).lt = s.lt := rfl
@[simp] theorem State.jump_thr (t : RomAddr) : (s.jump t).thr = s.thr := rfl
@[simp] theorem State.jump_pbe (t : RomAddr) : (s.jump t).pbe = s.pbe := rfl
@[simp] theorem State.jump_srf (t : RomAddr) : (s.jump t).srf = s.srf := rfl
@[simp] theorem State.jump_ie (t : RomAddr) : (s.jump t).ie = s.ie := rfl
@[simp] theorem State.jump_tpend (t : RomAddr) : (s.jump t).tpend = s.tpend := rfl
@[simp] theorem State.jump_ppend (t : RomAddr) : (s.jump t).ppend = s.ppend := rfl
@[simp] theorem State.jump_ssp (t : RomAddr) : (s.jump t).ssp = s.ssp := rfl
@[simp] theorem State.jump_smd (t : RomAddr) : (s.jump t).smd = s.smd := rfl
@[simp] theorem State.jump_lon (t : RomAddr) : (s.jump t).lon = s.lon := rfl
@[simp] theorem State.jump_sleeping (t : RomAddr) : (s.jump t).sleeping = s.sleeping := rfl
@[simp] theorem State.jump_locked (t : RomAddr) : (s.jump t).locked = s.locked := rfl
@[simp] theorem State.jump_pc (t : RomAddr) : (s.jump t).pc = t := rfl
@[simp] theorem State.jump_pins (t : RomAddr) : (s.jump t).pins = s.pins := rfl
@[simp] theorem State.jump_nvm (t : RomAddr) : (s.jump t).nvm = s.nvm := rfl
@[simp] theorem State.jump_nvmWrites (t : RomAddr) : (s.jump t).nvmWrites = s.nvmWrites := rfl
@[simp] theorem State.jump_trace (t : RomAddr) : (s.jump t).trace = s.trace := rfl
@[simp] theorem State.jump_rom (t : RomAddr) : (s.jump t).rom = s.rom := rfl
@[simp] theorem State.jump_cfg (t : RomAddr) : (s.jump t).cfg = s.cfg := rfl
@[simp] theorem State.jump_env (t : RomAddr) : (s.jump t).env = s.env := rfl

/-! ### emit -/

@[simp] theorem State.emit_mode (e : Event) : (s.emit e).mode = s.mode := rfl
@[simp] theorem State.emit_mt (e : Event) : (s.emit e).mt = s.mt := rfl
@[simp] theorem State.emit_lt (e : Event) : (s.emit e).lt = s.lt := rfl
@[simp] theorem State.emit_thr (e : Event) : (s.emit e).thr = s.thr := rfl
@[simp] theorem State.emit_pbe (e : Event) : (s.emit e).pbe = s.pbe := rfl
@[simp] theorem State.emit_srf (e : Event) : (s.emit e).srf = s.srf := rfl
@[simp] theorem State.emit_ie (e : Event) : (s.emit e).ie = s.ie := rfl
@[simp] theorem State.emit_tpend (e : Event) : (s.emit e).tpend = s.tpend := rfl
@[simp] theorem State.emit_ppend (e : Event) : (s.emit e).ppend = s.ppend := rfl
@[simp] theorem State.emit_ssp (e : Event) : (s.emit e).ssp = s.ssp := rfl
@[simp] theorem State.emit_smd (e : Event) : (s.emit e).smd = s.smd := rfl
@[simp] theorem State.emit_lon (e : Event) : (s.emit e).lon = s.lon := rfl
@[simp] theorem State.emit_sleeping (e : Event) : (s.emit e).sleeping = s.sleeping := rfl
@[simp] theorem State.emit_locked (e : Event) : (s.emit e).locked = s.locked := rfl
@[simp] theorem State.emit_pc (e : Event) : (s.emit e).pc = s.pc := rfl
@[simp] theorem State.emit_pins (e : Event) : (s.emit e).pins = s.pins := rfl
@[simp] theorem State.emit_nvm (e : Event) : (s.emit e).nvm = s.nvm := rfl
@[simp] theorem State.emit_nvmWrites (e : Event) : (s.emit e).nvmWrites = s.nvmWrites := rfl
@[simp] theorem State.emit_trace (e : Event) : (s.emit e).trace = s.trace ++ [e] := rfl
@[simp] theorem State.emit_rom (e : Event) : (s.emit e).rom = s.rom := rfl
@[simp] theorem State.emit_cfg (e : Event) : (s.emit e).cfg = s.cfg := rfl
@[simp] theorem State.emit_env (e : Event) : (s.emit e).env = s.env := rfl

/-! ### arriveTick -/

@[simp] theorem State.arriveTick_mode : s.arriveTick.mode = s.mode := rfl
@[simp] theorem State.arriveTick_mt : s.arriveTick.mt = s.mt := rfl
@[simp] theorem State.arriveTick_lt : s.arriveTick.lt = s.lt := rfl
@[simp] theorem State.arriveTick_thr : s.arriveTick.thr = s.thr := rfl
@[simp] theorem State.arriveTick_pbe : s.arriveTick.pbe = s.pbe := rfl
@[simp] theorem State.arriveTick_srf : s.arriveTick.srf = s.srf := rfl
@[simp] theorem State.arriveTick_ie : s.arriveTick.ie = s.ie := rfl
@[simp] theorem State.arriveTick_tpend : s.arriveTick.tpend = true := rfl
@[simp] theorem State.arriveTick_ppend : s.arriveTick.ppend = s.ppend := rfl
@[simp] theorem State.arriveTick_ssp : s.arriveTick.ssp = s.ssp := rfl
@[simp] theorem State.arriveTick_smd : s.arriveTick.smd = s.smd := rfl
@[simp] theorem State.arriveTick_lon : s.arriveTick.lon = s.lon := rfl
@[simp] theorem State.arriveTick_sleeping : s.arriveTick.sleeping = s.sleeping := rfl
@[simp] theorem State.arriveTick_locked : s.arriveTick.locked = s.locked := rfl
@[simp] theorem State.arriveTick_pc : s.arriveTick.pc = s.pc := rfl
@[simp] theorem State.arriveTick_pins : s.arriveTick.pins = s.pins := rfl
@[simp] theorem State.arriveTick_nvm : s.arriveTick.nvm = s.nvm := rfl
@[simp] theorem State.arriveTick_nvmWrites : s.arriveTick.nvmWrites = s.nvmWrites := rfl
@[simp] theorem State.arriveTick_trace : s.arriveTick.trace = s.trace := rfl
@[simp] theorem State.arriveTick_rom : s.arriveTick.rom = s.rom := rfl
@[simp] theorem State.arriveTick_cfg : s.arriveTick.cfg = s.cfg := rfl
@[simp] theorem State.arriveTick_env : s.arriveTick.env = s.env := rfl

/-! ### arrivePchg -/

@[simp] theorem State.arrivePchg_mode : s.arrivePchg.mode = s.mode := rfl
@[simp] theorem State.arrivePchg_mt : s.arrivePchg.mt = s.mt := rfl
@[simp] theorem State.arrivePchg_lt : s.arrivePchg.lt = s.lt := rfl
@[simp] theorem State.arrivePchg_thr : s.arrivePchg.thr = s.thr := rfl
@[simp] theorem State.arrivePchg_pbe : s.arrivePchg.pbe = s.pbe := rfl
@[simp] theorem State.arrivePchg_srf : s.arrivePchg.srf = s.srf := rfl
@[simp] theorem State.arrivePchg_ie : s.arrivePchg.ie = s.ie := rfl
@[simp] theorem State.arrivePchg_tpend : s.arrivePchg.tpend = s.tpend := rfl
@[simp] theorem State.arrivePchg_ppend : s.arrivePchg.ppend = true := rfl
@[simp] theorem State.arrivePchg_ssp : s.arrivePchg.ssp = s.ssp := rfl
@[simp] theorem State.arrivePchg_smd : s.arrivePchg.smd = s.smd := rfl
@[simp] theorem State.arrivePchg_lon : s.arrivePchg.lon = s.lon := rfl
@[simp] theorem State.arrivePchg_sleeping : s.arrivePchg.sleeping = s.sleeping := rfl
@[simp] theorem State.arrivePchg_locked : s.arrivePchg.locked = s.locked := rfl
@[simp] theorem State.arrivePchg_pc : s.arrivePchg.pc = s.pc := rfl
@[simp] theorem State.arrivePchg_pins : s.arrivePchg.pins = s.pins := rfl
@[simp] theorem State.arrivePchg_nvm : s.arrivePchg.nvm = s.nvm := rfl
@[simp] theorem State.arrivePchg_nvmWrites : s.arrivePchg.nvmWrites = s.nvmWrites := rfl
@[simp] theorem State.arrivePchg_trace : s.arrivePchg.trace = s.trace := rfl
@[simp] theorem State.arrivePchg_rom : s.arrivePchg.rom = s.rom := rfl
@[simp] theorem State.arrivePchg_cfg : s.arrivePchg.cfg = s.cfg := rfl
@[simp] theorem State.arrivePchg_env : s.arrivePchg.env = s.env := rfl

/-! ### serviceTick -/

@[simp] theorem State.serviceTick_mode : s.serviceTick.mode = s.mode := rfl
@[simp] theorem State.serviceTick_mt : s.serviceTick.mt = s.mt := rfl
@[simp] theorem State.serviceTick_lt : s.serviceTick.lt = s.lt := rfl
@[simp] theorem State.serviceTick_thr : s.serviceTick.thr = s.thr := rfl
@[simp] theorem State.serviceTick_pbe : s.serviceTick.pbe = s.pbe := rfl
@[simp] theorem State.serviceTick_srf : s.serviceTick.srf = false := rfl
@[simp] theorem State.serviceTick_ie : s.serviceTick.ie = s.ie := rfl
@[simp] theorem State.serviceTick_tpend : s.serviceTick.tpend = false := rfl
@[simp] theorem State.serviceTick_ppend : s.serviceTick.ppend = s.ppend := rfl
@[simp] theorem State.serviceTick_ssp : s.serviceTick.ssp = s.ssp := rfl
@[simp] theorem State.serviceTick_smd : s.serviceTick.smd = s.smd := rfl
@[simp] theorem State.serviceTick_lon : s.serviceTick.lon = s.lon := rfl
@[simp] theorem State.serviceTick_sleeping : s.serviceTick.sleeping = false := rfl
@[simp] theorem State.serviceTick_locked : s.serviceTick.locked = s.locked := rfl
@[simp] theorem State.serviceTick_pc : s.serviceTick.pc = s.pc := rfl
@[simp] theorem State.serviceTick_pins : s.serviceTick.pins = s.pins := rfl
@[simp] theorem State.serviceTick_nvm : s.serviceTick.nvm = s.nvm := rfl
@[simp] theorem State.serviceTick_nvmWrites : s.serviceTick.nvmWrites = s.nvmWrites := rfl
@[simp] theorem State.serviceTick_trace : s.serviceTick.trace = s.trace := rfl
@[simp] theorem State.serviceTick_rom : s.serviceTick.rom = s.rom := rfl
@[simp] theorem State.serviceTick_cfg : s.serviceTick.cfg = s.cfg := rfl
@[simp] theorem State.serviceTick_env : s.serviceTick.env = s.env := rfl

/-! ### servicePchg -/

@[simp] theorem State.servicePchg_mode : s.servicePchg.mode = s.mode := rfl
@[simp] theorem State.servicePchg_mt : s.servicePchg.mt = s.mt := rfl
@[simp] theorem State.servicePchg_lt : s.servicePchg.lt = s.lt := rfl
@[simp] theorem State.servicePchg_thr : s.servicePchg.thr = s.thr := rfl
@[simp] theorem State.servicePchg_pbe : s.servicePchg.pbe = true := rfl
@[simp] theorem State.servicePchg_srf : s.servicePchg.srf = s.srf := rfl
@[simp] theorem State.servicePchg_ie : s.servicePchg.ie = s.ie := rfl
@[simp] theorem State.servicePchg_tpend : s.servicePchg.tpend = s.tpend := rfl
@[simp] theorem State.servicePchg_ppend : s.servicePchg.ppend = false := rfl
@[simp] theorem State.servicePchg_ssp : s.servicePchg.ssp = s.ssp := rfl
@[simp] theorem State.servicePchg_smd : s.servicePchg.smd = s.smd := rfl
@[simp] theorem State.servicePchg_lon : s.servicePchg.lon = s.lon := rfl
@[simp] theorem State.servicePchg_sleeping : s.servicePchg.sleeping = false := rfl
@[simp] theorem State.servicePchg_locked : s.servicePchg.locked = s.locked := rfl
@[simp] theorem State.servicePchg_pc : s.servicePchg.pc = s.pc := rfl
@[simp] theorem State.servicePchg_pins : s.servicePchg.pins = s.pins := rfl
@[simp] theorem State.servicePchg_nvm : s.servicePchg.nvm = s.nvm := rfl
@[simp] theorem State.servicePchg_nvmWrites : s.servicePchg.nvmWrites = s.nvmWrites := rfl
@[simp] theorem State.servicePchg_trace : s.servicePchg.trace = s.trace := rfl
@[simp] theorem State.servicePchg_rom : s.servicePchg.rom = s.rom := rfl
@[simp] theorem State.servicePchg_cfg : s.servicePchg.cfg = s.cfg := rfl
@[simp] theorem State.servicePchg_env : s.servicePchg.env = s.env := rfl

/-! ### raiseIllegal -/

@[simp] theorem State.raiseIllegal_mode (w : Word) : (s.raiseIllegal w).mode = s.mode := rfl
@[simp] theorem State.raiseIllegal_mt (w : Word) : (s.raiseIllegal w).mt = s.mt := rfl
@[simp] theorem State.raiseIllegal_lt (w : Word) : (s.raiseIllegal w).lt = s.lt := rfl
@[simp] theorem State.raiseIllegal_thr (w : Word) : (s.raiseIllegal w).thr = s.thr := rfl
@[simp] theorem State.raiseIllegal_pbe (w : Word) : (s.raiseIllegal w).pbe = s.pbe := rfl
@[simp] theorem State.raiseIllegal_srf (w : Word) : (s.raiseIllegal w).srf = s.srf := rfl
@[simp] theorem State.raiseIllegal_ie (w : Word) : (s.raiseIllegal w).ie = s.ie := rfl
@[simp] theorem State.raiseIllegal_tpend (w : Word) : (s.raiseIllegal w).tpend = s.tpend := rfl
@[simp] theorem State.raiseIllegal_ppend (w : Word) : (s.raiseIllegal w).ppend = s.ppend := rfl
@[simp] theorem State.raiseIllegal_ssp (w : Word) : (s.raiseIllegal w).ssp = s.ssp := rfl
@[simp] theorem State.raiseIllegal_smd (w : Word) : (s.raiseIllegal w).smd = s.smd := rfl
@[simp] theorem State.raiseIllegal_lon (w : Word) : (s.raiseIllegal w).lon = s.lon := rfl
@[simp] theorem State.raiseIllegal_sleeping (w : Word) : (s.raiseIllegal w).sleeping = s.sleeping := rfl
@[simp] theorem State.raiseIllegal_locked (w : Word) : (s.raiseIllegal w).locked = true := rfl
@[simp] theorem State.raiseIllegal_pc (w : Word) : (s.raiseIllegal w).pc = s.pc := rfl
@[simp] theorem State.raiseIllegal_pins (w : Word) : (s.raiseIllegal w).pins = .idle := rfl
@[simp] theorem State.raiseIllegal_nvm (w : Word) : (s.raiseIllegal w).nvm = s.nvm := rfl
@[simp] theorem State.raiseIllegal_nvmWrites (w : Word) : (s.raiseIllegal w).nvmWrites = s.nvmWrites := rfl
@[simp] theorem State.raiseIllegal_trace (w : Word) : (s.raiseIllegal w).trace = s.trace ++ [.fault (.illegal s.pc w)] := rfl
@[simp] theorem State.raiseIllegal_rom (w : Word) : (s.raiseIllegal w).rom = s.rom := rfl
@[simp] theorem State.raiseIllegal_cfg (w : Word) : (s.raiseIllegal w).cfg = s.cfg := rfl
@[simp] theorem State.raiseIllegal_env (w : Word) : (s.raiseIllegal w).env = s.env := rfl

/-! ### withTurns -/

@[simp] theorem State.withTurns_mode (ts : List Turn) : (s.withTurns ts).mode = s.mode := rfl
@[simp] theorem State.withTurns_mt (ts : List Turn) : (s.withTurns ts).mt = s.mt := rfl
@[simp] theorem State.withTurns_lt (ts : List Turn) : (s.withTurns ts).lt = s.lt := rfl
@[simp] theorem State.withTurns_thr (ts : List Turn) : (s.withTurns ts).thr = s.thr := rfl
@[simp] theorem State.withTurns_pbe (ts : List Turn) : (s.withTurns ts).pbe = s.pbe := rfl
@[simp] theorem State.withTurns_srf (ts : List Turn) : (s.withTurns ts).srf = s.srf := rfl
@[simp] theorem State.withTurns_ie (ts : List Turn) : (s.withTurns ts).ie = s.ie := rfl
@[simp] theorem State.withTurns_tpend (ts : List Turn) : (s.withTurns ts).tpend = s.tpend := rfl
@[simp] theorem State.withTurns_ppend (ts : List Turn) : (s.withTurns ts).ppend = s.ppend := rfl
@[simp] theorem State.withTurns_ssp (ts : List Turn) : (s.withTurns ts).ssp = s.ssp := rfl
@[simp] theorem State.withTurns_smd (ts : List Turn) : (s.withTurns ts).smd = s.smd := rfl
@[simp] theorem State.withTurns_lon (ts : List Turn) : (s.withTurns ts).lon = s.lon := rfl
@[simp] theorem State.withTurns_sleeping (ts : List Turn) : (s.withTurns ts).sleeping = s.sleeping := rfl
@[simp] theorem State.withTurns_locked (ts : List Turn) : (s.withTurns ts).locked = s.locked := rfl
@[simp] theorem State.withTurns_pc (ts : List Turn) : (s.withTurns ts).pc = s.pc := rfl
@[simp] theorem State.withTurns_pins (ts : List Turn) : (s.withTurns ts).pins = s.pins := rfl
@[simp] theorem State.withTurns_nvm (ts : List Turn) : (s.withTurns ts).nvm = s.nvm := rfl
@[simp] theorem State.withTurns_nvmWrites (ts : List Turn) : (s.withTurns ts).nvmWrites = s.nvmWrites := rfl
@[simp] theorem State.withTurns_trace (ts : List Turn) : (s.withTurns ts).trace = s.trace := rfl
@[simp] theorem State.withTurns_rom (ts : List Turn) : (s.withTurns ts).rom = s.rom := rfl
@[simp] theorem State.withTurns_cfg (ts : List Turn) : (s.withTurns ts).cfg = s.cfg := rfl
@[simp] theorem State.withTurns_env (ts : List Turn) : (s.withTurns ts).env = { s.env with turns := ts } := rfl

/-! ### powerOnReset -/

@[simp] theorem State.powerOnReset_mode : s.powerOnReset.mode = BitVec.ofNat 8 s.cfg.defaultMode := rfl
@[simp] theorem State.powerOnReset_mt : s.powerOnReset.mt = 0 := rfl
@[simp] theorem State.powerOnReset_lt : s.powerOnReset.lt = 0 := rfl
@[simp] theorem State.powerOnReset_thr : s.powerOnReset.thr = 0 := rfl
@[simp] theorem State.powerOnReset_pbe : s.powerOnReset.pbe = false := rfl
@[simp] theorem State.powerOnReset_srf : s.powerOnReset.srf = true := rfl
@[simp] theorem State.powerOnReset_ie : s.powerOnReset.ie = false := rfl
@[simp] theorem State.powerOnReset_tpend : s.powerOnReset.tpend = false := rfl
@[simp] theorem State.powerOnReset_ppend : s.powerOnReset.ppend = false := rfl
@[simp] theorem State.powerOnReset_ssp : s.powerOnReset.ssp = false := rfl
@[simp] theorem State.powerOnReset_smd : s.powerOnReset.smd = false := rfl
@[simp] theorem State.powerOnReset_lon : s.powerOnReset.lon = false := rfl
@[simp] theorem State.powerOnReset_sleeping : s.powerOnReset.sleeping = false := rfl
@[simp] theorem State.powerOnReset_locked : s.powerOnReset.locked = false := rfl
@[simp] theorem State.powerOnReset_pc : s.powerOnReset.pc = 0 := rfl
@[simp] theorem State.powerOnReset_pins : s.powerOnReset.pins = .idle := rfl
@[simp] theorem State.powerOnReset_nvm : s.powerOnReset.nvm = s.nvm := rfl
@[simp] theorem State.powerOnReset_nvmWrites : s.powerOnReset.nvmWrites = s.nvmWrites := rfl
@[simp] theorem State.powerOnReset_trace : s.powerOnReset.trace = s.trace ++ [.reset] := rfl
@[simp] theorem State.powerOnReset_rom : s.powerOnReset.rom = s.rom := rfl
@[simp] theorem State.powerOnReset_cfg : s.powerOnReset.cfg = s.cfg := rfl
@[simp] theorem State.powerOnReset_env : s.powerOnReset.env = s.env := rfl

/-! ### afterDischarge -/

@[simp] theorem State.afterDischarge_mode : s.afterDischarge.mode = s.mode := by unfold State.afterDischarge; split <;> rfl
@[simp] theorem State.afterDischarge_mt : s.afterDischarge.mt = s.mt := by unfold State.afterDischarge; split <;> rfl
@[simp] theorem State.afterDischarge_lt : s.afterDischarge.lt = s.lt := by unfold State.afterDischarge; split <;> rfl
@[simp] theorem State.afterDischarge_thr : s.afterDischarge.thr = s.thr := by unfold State.afterDischarge; split <;> rfl
@[simp] theorem State.afterDischarge_pbe : s.afterDischarge.pbe = s.pbe := by unfold State.afterDischarge; split <;> rfl
@[simp] theorem State.afterDischarge_srf : s.afterDischarge.srf = s.srf := by unfold State.afterDischarge; split <;> rfl
@[simp] theorem State.afterDischarge_ie : s.afterDischarge.ie = s.ie := by unfold State.afterDischarge; split <;> rfl
@[simp] theorem State.afterDischarge_tpend : s.afterDischarge.tpend = s.tpend := by unfold State.afterDischarge; split <;> rfl
@[simp] theorem State.afterDischarge_ppend : s.afterDischarge.ppend = s.ppend := by unfold State.afterDischarge; split <;> rfl
@[simp] theorem State.afterDischarge_ssp : s.afterDischarge.ssp = s.ssp := by unfold State.afterDischarge; split <;> rfl
@[simp] theorem State.afterDischarge_smd : s.afterDischarge.smd = s.smd := by unfold State.afterDischarge; split <;> rfl
@[simp] theorem State.afterDischarge_lon : s.afterDischarge.lon = s.lon := by unfold State.afterDischarge; split <;> rfl
@[simp] theorem State.afterDischarge_sleeping : s.afterDischarge.sleeping = s.sleeping := by unfold State.afterDischarge; split <;> rfl
@[simp] theorem State.afterDischarge_locked : s.afterDischarge.locked = s.locked := by unfold State.afterDischarge; split <;> rfl
@[simp] theorem State.afterDischarge_pc : s.afterDischarge.pc = s.pc := by unfold State.afterDischarge; split <;> rfl
@[simp] theorem State.afterDischarge_pins : s.afterDischarge.pins = s.pins := by unfold State.afterDischarge; split <;> rfl
@[simp] theorem State.afterDischarge_nvm : s.afterDischarge.nvm = s.nvm := by unfold State.afterDischarge; split <;> rfl
@[simp] theorem State.afterDischarge_nvmWrites : s.afterDischarge.nvmWrites = s.nvmWrites := by unfold State.afterDischarge; split <;> rfl
@[simp] theorem State.afterDischarge_trace : s.afterDischarge.trace = s.trace := by unfold State.afterDischarge; split <;> rfl
@[simp] theorem State.afterDischarge_rom : s.afterDischarge.rom = s.rom := by unfold State.afterDischarge; split <;> rfl
@[simp] theorem State.afterDischarge_cfg : s.afterDischarge.cfg = s.cfg := by unfold State.afterDischarge; split <;> rfl

/-! ### afterButtons -/

@[simp] theorem State.afterButtons_mode : s.afterButtons.mode = s.mode := by unfold State.afterButtons; split <;> rfl
@[simp] theorem State.afterButtons_mt : s.afterButtons.mt = s.mt := by unfold State.afterButtons; split <;> rfl
@[simp] theorem State.afterButtons_lt : s.afterButtons.lt = s.lt := by unfold State.afterButtons; split <;> rfl
@[simp] theorem State.afterButtons_thr : s.afterButtons.thr = s.thr := by unfold State.afterButtons; split <;> rfl
@[simp] theorem State.afterButtons_pbe : s.afterButtons.pbe = s.pbe := by unfold State.afterButtons; split <;> rfl
@[simp] theorem State.afterButtons_srf : s.afterButtons.srf = s.srf := by unfold State.afterButtons; split <;> rfl
@[simp] theorem State.afterButtons_ie : s.afterButtons.ie = s.ie := by unfold State.afterButtons; split <;> rfl
@[simp] theorem State.afterButtons_tpend : s.afterButtons.tpend = s.tpend := by unfold State.afterButtons; split <;> rfl
@[simp] theorem State.afterButtons_ppend : s.afterButtons.ppend = s.ppend := by unfold State.afterButtons; split <;> rfl
@[simp] theorem State.afterButtons_ssp : s.afterButtons.ssp = s.ssp := by unfold State.afterButtons; split <;> rfl
@[simp] theorem State.afterButtons_smd : s.afterButtons.smd = s.smd := by unfold State.afterButtons; split <;> rfl
@[simp] theorem State.afterButtons_lon : s.afterButtons.lon = s.lon := by unfold State.afterButtons; split <;> rfl
@[simp] theorem State.afterButtons_sleeping : s.afterButtons.sleeping = s.sleeping := by unfold State.afterButtons; split <;> rfl
@[simp] theorem State.afterButtons_locked : s.afterButtons.locked = s.locked := by unfold State.afterButtons; split <;> rfl
@[simp] theorem State.afterButtons_pc : s.afterButtons.pc = s.pc := by unfold State.afterButtons; split <;> rfl
@[simp] theorem State.afterButtons_pins : s.afterButtons.pins = s.pins := by unfold State.afterButtons; split <;> rfl
@[simp] theorem State.afterButtons_nvm : s.afterButtons.nvm = s.nvm := by unfold State.afterButtons; split <;> rfl
@[simp] theorem State.afterButtons_nvmWrites : s.afterButtons.nvmWrites = s.nvmWrites := by unfold State.afterButtons; split <;> rfl
@[simp] theorem State.afterButtons_trace : s.afterButtons.trace = s.trace := by unfold State.afterButtons; split <;> rfl
@[simp] theorem State.afterButtons_rom : s.afterButtons.rom = s.rom := by unfold State.afterButtons; split <;> rfl
@[simp] theorem State.afterButtons_cfg : s.afterButtons.cfg = s.cfg := by unfold State.afterButtons; split <;> rfl

/-! ### afterByte -/

@[simp] theorem State.afterByte_mode : s.afterByte.mode = s.mode := by unfold State.afterByte; split <;> rfl
@[simp] theorem State.afterByte_mt : s.afterByte.mt = s.mt := by unfold State.afterByte; split <;> rfl
@[simp] theorem State.afterByte_lt : s.afterByte.lt = s.lt := by unfold State.afterByte; split <;> rfl
@[simp] theorem State.afterByte_thr : s.afterByte.thr = s.thr := by unfold State.afterByte; split <;> rfl
@[simp] theorem State.afterByte_pbe : s.afterByte.pbe = s.pbe := by unfold State.afterByte; split <;> rfl
@[simp] theorem State.afterByte_srf : s.afterByte.srf = s.srf := by unfold State.afterByte; split <;> rfl
@[simp] theorem State.afterByte_ie : s.afterByte.ie = s.ie := by unfold State.afterByte; split <;> rfl
@[simp] theorem State.afterByte_tpend : s.afterByte.tpend = s.tpend := by unfold State.afterByte; split <;> rfl
@[simp] theorem State.afterByte_ppend : s.afterByte.ppend = s.ppend := by unfold State.afterByte; split <;> rfl
@[simp] theorem State.afterByte_ssp : s.afterByte.ssp = s.ssp := by unfold State.afterByte; split <;> rfl
@[simp] theorem State.afterByte_smd : s.afterByte.smd = s.smd := by unfold State.afterByte; split <;> rfl
@[simp] theorem State.afterByte_lon : s.afterByte.lon = s.lon := by unfold State.afterByte; split <;> rfl
@[simp] theorem State.afterByte_sleeping : s.afterByte.sleeping = s.sleeping := by unfold State.afterByte; split <;> rfl
@[simp] theorem State.afterByte_locked : s.afterByte.locked = s.locked := by unfold State.afterByte; split <;> rfl
@[simp] theorem State.afterByte_pc : s.afterByte.pc = s.pc := by unfold State.afterByte; split <;> rfl
@[simp] theorem State.afterByte_pins : s.afterByte.pins = s.pins := by unfold State.afterByte; split <;> rfl
@[simp] theorem State.afterByte_nvm : s.afterByte.nvm = s.nvm := by unfold State.afterByte; split <;> rfl
@[simp] theorem State.afterByte_nvmWrites : s.afterByte.nvmWrites = s.nvmWrites := by unfold State.afterByte; split <;> rfl
@[simp] theorem State.afterByte_trace : s.afterByte.trace = s.trace := by unfold State.afterByte; split <;> rfl
@[simp] theorem State.afterByte_rom : s.afterByte.rom = s.rom := by unfold State.afterByte; split <;> rfl
@[simp] theorem State.afterByte_cfg : s.afterByte.cfg = s.cfg := by unfold State.afterByte; split <;> rfl

/-! ### afterNvmRead -/

@[simp] theorem State.afterNvmRead_mode : s.afterNvmRead.mode = s.mode := by unfold State.afterNvmRead; split <;> simp
@[simp] theorem State.afterNvmRead_mt : s.afterNvmRead.mt = s.mt := by unfold State.afterNvmRead; split <;> simp
@[simp] theorem State.afterNvmRead_lt : s.afterNvmRead.lt = s.lt := by unfold State.afterNvmRead; split <;> simp
@[simp] theorem State.afterNvmRead_thr : s.afterNvmRead.thr = s.thr := by unfold State.afterNvmRead; split <;> simp
@[simp] theorem State.afterNvmRead_pbe : s.afterNvmRead.pbe = s.pbe := by unfold State.afterNvmRead; split <;> simp
@[simp] theorem State.afterNvmRead_srf : s.afterNvmRead.srf = s.srf := by unfold State.afterNvmRead; split <;> simp
@[simp] theorem State.afterNvmRead_ie : s.afterNvmRead.ie = s.ie := by unfold State.afterNvmRead; split <;> simp
@[simp] theorem State.afterNvmRead_tpend : s.afterNvmRead.tpend = s.tpend := by unfold State.afterNvmRead; split <;> simp
@[simp] theorem State.afterNvmRead_ppend : s.afterNvmRead.ppend = s.ppend := by unfold State.afterNvmRead; split <;> simp
@[simp] theorem State.afterNvmRead_ssp : s.afterNvmRead.ssp = s.ssp := by unfold State.afterNvmRead; split <;> simp
@[simp] theorem State.afterNvmRead_smd : s.afterNvmRead.smd = s.smd := by unfold State.afterNvmRead; split <;> simp
@[simp] theorem State.afterNvmRead_lon : s.afterNvmRead.lon = s.lon := by unfold State.afterNvmRead; split <;> simp
@[simp] theorem State.afterNvmRead_sleeping : s.afterNvmRead.sleeping = s.sleeping := by unfold State.afterNvmRead; split <;> simp
@[simp] theorem State.afterNvmRead_locked : s.afterNvmRead.locked = s.locked := by unfold State.afterNvmRead; split <;> simp
@[simp] theorem State.afterNvmRead_pc : s.afterNvmRead.pc = s.pc := by unfold State.afterNvmRead; split <;> simp
@[simp] theorem State.afterNvmRead_pins : s.afterNvmRead.pins = s.pins := by unfold State.afterNvmRead; split <;> simp
@[simp] theorem State.afterNvmRead_nvm : s.afterNvmRead.nvm = s.nvm := by unfold State.afterNvmRead; split <;> simp
@[simp] theorem State.afterNvmRead_nvmWrites : s.afterNvmRead.nvmWrites = s.nvmWrites := by unfold State.afterNvmRead; split <;> simp
@[simp] theorem State.afterNvmRead_trace : s.afterNvmRead.trace = s.trace := by unfold State.afterNvmRead; split <;> simp
@[simp] theorem State.afterNvmRead_rom : s.afterNvmRead.rom = s.rom := by unfold State.afterNvmRead; split <;> simp
@[simp] theorem State.afterNvmRead_cfg : s.afterNvmRead.cfg = s.cfg := by unfold State.afterNvmRead; split <;> simp

/-! ### nvmStore -/

@[simp] theorem State.nvmStore_mode (v : Byte) : (s.nvmStore v).mode = s.mode := by unfold State.nvmStore; split <;> simp
@[simp] theorem State.nvmStore_mt (v : Byte) : (s.nvmStore v).mt = s.mt := by unfold State.nvmStore; split <;> simp
@[simp] theorem State.nvmStore_lt (v : Byte) : (s.nvmStore v).lt = s.lt := by unfold State.nvmStore; split <;> simp
@[simp] theorem State.nvmStore_thr (v : Byte) : (s.nvmStore v).thr = s.thr := by unfold State.nvmStore; split <;> simp
@[simp] theorem State.nvmStore_pbe (v : Byte) : (s.nvmStore v).pbe = s.pbe := by unfold State.nvmStore; split <;> simp
@[simp] theorem State.nvmStore_srf (v : Byte) : (s.nvmStore v).srf = s.srf := by unfold State.nvmStore; split <;> simp
@[simp] theorem State.nvmStore_ie (v : Byte) : (s.nvmStore v).ie = s.ie := by unfold State.nvmStore; split <;> simp
@[simp] theorem State.nvmStore_tpend (v : Byte) : (s.nvmStore v).tpend = s.tpend := by unfold State.nvmStore; split <;> simp
@[simp] theorem State.nvmStore_ppend (v : Byte) : (s.nvmStore v).ppend = s.ppend := by unfold State.nvmStore; split <;> simp
@[simp] theorem State.nvmStore_ssp (v : Byte) : (s.nvmStore v).ssp = s.ssp := by unfold State.nvmStore; split <;> simp
@[simp] theorem State.nvmStore_smd (v : Byte) : (s.nvmStore v).smd = s.smd := by unfold State.nvmStore; split <;> simp
@[simp] theorem State.nvmStore_lon (v : Byte) : (s.nvmStore v).lon = s.lon := by unfold State.nvmStore; split <;> simp
@[simp] theorem State.nvmStore_sleeping (v : Byte) : (s.nvmStore v).sleeping = s.sleeping := by unfold State.nvmStore; split <;> simp
@[simp] theorem State.nvmStore_locked (v : Byte) : (s.nvmStore v).locked = s.locked := by unfold State.nvmStore; split <;> simp
@[simp] theorem State.nvmStore_pc (v : Byte) : (s.nvmStore v).pc = s.pc := by unfold State.nvmStore; split <;> simp
@[simp] theorem State.nvmStore_pins (v : Byte) : (s.nvmStore v).pins = s.pins := by unfold State.nvmStore; split <;> simp
@[simp] theorem State.nvmStore_nvm (v : Byte) : (s.nvmStore v).nvm = s.nvmStoredByte v := rfl
@[simp] theorem State.nvmStore_nvmWrites (v : Byte) : (s.nvmStore v).nvmWrites = s.nvmWrites + 1 := rfl
@[simp] theorem State.nvmStore_trace (v : Byte) : (s.nvmStore v).trace = s.trace := by unfold State.nvmStore; split <;> simp
@[simp] theorem State.nvmStore_rom (v : Byte) : (s.nvmStore v).rom = s.rom := by unfold State.nvmStore; split <;> simp
@[simp] theorem State.nvmStore_cfg (v : Byte) : (s.nvmStore v).cfg = s.cfg := by unfold State.nvmStore; split <;> simp

/-! ### cutWrite -/

@[simp] theorem State.cutWrite_mode : s.cutWrite.mode = s.mode := by simp [State.cutWrite]
@[simp] theorem State.cutWrite_mt : s.cutWrite.mt = s.mt := by simp [State.cutWrite]
@[simp] theorem State.cutWrite_lt : s.cutWrite.lt = s.lt := by simp [State.cutWrite]
@[simp] theorem State.cutWrite_thr : s.cutWrite.thr = s.thr := by simp [State.cutWrite]
@[simp] theorem State.cutWrite_pbe : s.cutWrite.pbe = s.pbe := by simp [State.cutWrite]
@[simp] theorem State.cutWrite_srf : s.cutWrite.srf = s.srf := by simp [State.cutWrite]
@[simp] theorem State.cutWrite_ie : s.cutWrite.ie = s.ie := by simp [State.cutWrite]
@[simp] theorem State.cutWrite_tpend : s.cutWrite.tpend = s.tpend := by simp [State.cutWrite]
@[simp] theorem State.cutWrite_ppend : s.cutWrite.ppend = s.ppend := by simp [State.cutWrite]
@[simp] theorem State.cutWrite_ssp : s.cutWrite.ssp = s.ssp := by simp [State.cutWrite]
@[simp] theorem State.cutWrite_smd : s.cutWrite.smd = s.smd := by simp [State.cutWrite]
@[simp] theorem State.cutWrite_lon : s.cutWrite.lon = s.lon := by simp [State.cutWrite]
@[simp] theorem State.cutWrite_sleeping : s.cutWrite.sleeping = s.sleeping := by simp [State.cutWrite]
@[simp] theorem State.cutWrite_locked : s.cutWrite.locked = s.locked := by simp [State.cutWrite]
@[simp] theorem State.cutWrite_pc : s.cutWrite.pc = s.pc := by simp [State.cutWrite]
@[simp] theorem State.cutWrite_pins : s.cutWrite.pins = s.pins := by simp [State.cutWrite]
@[simp] theorem State.cutWrite_nvm : s.cutWrite.nvm = s.byteDraw := rfl
@[simp] theorem State.cutWrite_nvmWrites : s.cutWrite.nvmWrites = s.nvmWrites + 1 := rfl
@[simp] theorem State.cutWrite_trace : s.cutWrite.trace = s.trace ++ [.nvmWrite s.mode] := by simp [State.cutWrite]
@[simp] theorem State.cutWrite_rom : s.cutWrite.rom = s.rom := by simp [State.cutWrite]
@[simp] theorem State.cutWrite_cfg : s.cutWrite.cfg = s.cfg := by simp [State.cutWrite]

end Sys2Proof.Machine
end

