-- ==== Sys2Proof/Laws/Ops.lean ====
section
/-! SUPPORT. What each shared operation can do, said once. -/

namespace Sys2Proof.Machine

/-! ### Counting -/

/-- A saturating increment of a value within its bound is the smaller of the sum and the bound (rule R196). -/
theorem satInc_of_le {v M : Nat} (h : v ≤ M) : satInc v M = min (v + 1) M := by
  unfold satInc
  split_ifs <;> omega

/-- A saturating increment never passes its bound. -/
theorem satInc_le (v M : Nat) : satInc v M ≤ M := by
  unfold satInc
  split_ifs <;> omega

/-- A saturating sum is the smaller of the sum and the bound. -/
theorem satAdd_eq_min (a b M : Nat) : satAdd a b M = min (a + b) M := by
  unfold satAdd
  split_ifs <;> omega

/-- MAX_INT fits the counter. -/
theorem maxInt_lt (c : Config) : maxInt c < 2 ^ 16 := by
  have h1 := c.itShort.isLt
  have h2 := c.itMedium.isLt
  have h3 := c.itLong.isLt
  unfold maxInt
  omega

/-! ### Draws: only the environment changes -/

theorem State.afterDischarge_eq (s : State) : s.afterDischarge = { s with env := s.afterDischarge.env } := by
  unfold State.afterDischarge
  split <;> rfl

theorem State.afterButtons_eq (s : State) : s.afterButtons = { s with env := s.afterButtons.env } := by
  unfold State.afterButtons
  split <;> rfl

theorem State.afterByte_eq (s : State) : s.afterByte = { s with env := s.afterByte.env } := by
  unfold State.afterByte
  split <;> rfl

theorem State.afterNvmRead_eq (s : State) : s.afterNvmRead = { s with env := s.afterNvmRead.env } := by
  unfold State.afterNvmRead
  split
  · exact s.afterByte_eq
  · rfl

/-- A store write changes the byte, the write count and the draws alone. -/
theorem State.nvmStore_eq (s : State) (v : Byte) :
    s.nvmStore v =
      { s with nvm := s.nvmStoredByte v, nvmWrites := s.nvmWrites + 1, env := (s.nvmStore v).env } := by
  unfold State.nvmStore
  split
  · rw [s.afterByte_eq]
  · rfl

/-- A write with IE = 0 to a store within its endurance leaves the byte written (rule R143). -/
theorem State.nvmStoredByte_of_off {s : State} {v : Byte} (hie : s.ie = false) (hw : s.nvmWorn = false) :
    s.nvmStoredByte v = v := by
  simp [State.nvmStoredByte, hie, hw]

/-- A store within its endurance is not worn (rule R146). -/
theorem State.nvmWorn_of_le {s : State} (h : s.nvmWrites ≤ s.cfg.nvmEndurance) : s.nvmWorn = false := by
  simp [State.nvmWorn, h]

/-- A store past its endurance is worn (rule R146). -/
theorem State.nvmWorn_of_lt {s : State} (h : s.cfg.nvmEndurance < s.nvmWrites) : s.nvmWorn = true := by
  simp [State.nvmWorn, h]

/-- With IE = 0 and a store within its endurance no draw is used (rule R143). -/
theorem State.nvmStore_of_off {s : State} (v : Byte) (hie : s.ie = false) (hw : s.nvmWorn = false) :
    s.nvmStore v = { s with nvm := v, nvmWrites := s.nvmWrites + 1 } := by
  unfold State.nvmStore
  rw [State.nvmStoredByte_of_off hie hw, if_neg (by simp [hie, hw])]

/-! ### Draws leave the turns alone -/

@[simp] theorem State.afterDischarge_turns (s : State) : s.afterDischarge.env.turns = s.env.turns := by
  unfold State.afterDischarge
  split <;> rfl

@[simp] theorem State.afterButtons_turns (s : State) : s.afterButtons.env.turns = s.env.turns := by
  unfold State.afterButtons
  split <;> rfl

@[simp] theorem State.afterByte_turns (s : State) : s.afterByte.env.turns = s.env.turns := by
  unfold State.afterByte
  split <;> rfl

@[simp] theorem State.afterNvmRead_turns (s : State) : s.afterNvmRead.env.turns = s.env.turns := by
  unfold State.afterNvmRead
  split <;> simp

@[simp] theorem State.nvmStore_turns (s : State) (v : Byte) : (s.nvmStore v).env.turns = s.env.turns := by
  unfold State.nvmStore
  split <;> simp

@[simp] theorem State.cutWrite_turns (s : State) : s.cutWrite.env.turns = s.env.turns := by
  simp [State.cutWrite]

/-! ### Waveforms -/

/-- A measurement ends with the sense line driven low, whatever it counted (rules R121, R123). -/
@[simp] theorem endPins_sensePhases (c : Config) (p : Pins) (r : Nat) :
    endPins p (sensePhases c p r) = { p with senseOe := true, senseO := false } := rfl

/-- A pulse ends with the actuator off (rule R161). -/
@[simp] theorem endPins_pulsePhases (c : Config) (p : Pins) : endPins p (pulsePhases c p) = { p with act := false } := rfl

/-- One blink or more end with the indicator off (rule R156). -/
theorem endPins_blinkPhases (c : Config) (k : PatternClass) (p : Pins) {n : Nat} (hn : 1 ≤ n) :
    endPins p (blinkPhases c k p n) = { p with ind := false } := by
  obtain ⟨m, rfl⟩ : ∃ m, n = m + 1 := ⟨n - 1, by omega⟩
  unfold endPins blinkPhases
  rw [List.replicate_succ', List.flatten_append]
  simp

/-- A measurement lasts at most CHARGE_T + B × T_CNT (rule R124). -/
theorem waveTime_sensePhases_le (s : State) (bound : Nat) :
    waveTime (sensePhases s.cfg s.pins (s.measure bound)) ≤ s.cfg.chargeT + bound * s.cfg.tCnt := by
  have h : s.measure bound ≤ bound := Nat.min_le_right _ _
  simp only [waveTime, sensePhases, List.map_cons, List.map_nil, List.sum_cons, List.sum_nil]
  have := Nat.mul_le_mul_right s.cfg.tCnt h
  omega

/-- A BLINK of no count does nothing; of a count, it records one event and leaves the indicator off (rule R156). -/
theorem State.blinkTimes_eq (s : State) (p : PatternClass) (n : Nat) :
    s.blinkTimes p n =
      if n = 0 then s else { s with trace := s.trace ++ [.blink p n], pins := { s.pins with ind := false } } := by
  unfold State.blinkTimes
  by_cases h : n = 0
  · simp [h]
  · rw [if_pos (by omega), if_neg h, endPins_blinkPhases _ _ _ (by omega)]
    rfl

/-- A measurement uses one draw and restores the sense line (rules R121, R123). -/
theorem State.afterMeasure_eq (s : State) (r : Nat) :
    s.afterMeasure r =
      { s with env := s.afterDischarge.env, pins := { s.pins with senseOe := true, senseO := false } } := by
  unfold State.afterMeasure
  rw [s.afterDischarge_eq]
  rfl

/-! ### Power loss -/

/-- A cut instruction changes the store, its count, the trace, the indicator and the draws alone. -/
theorem State.cut_eq (s : State) (i : Instr) :
    s.cut i =
      { s with
        nvm := (s.cut i).nvm
        nvmWrites := (s.cut i).nvmWrites
        trace := (s.cut i).trace
        pins := (s.cut i).pins
        env := (s.cut i).env } := by
  cases i <;> simp only [State.cut, State.blinkTimes_eq, State.cutWrite]
  case cal | sense =>
    unfold State.afterDischarge
    split <;> rfl
  case nvmst =>
    unfold State.afterByte
    split <;> rfl
  case blink => split <;> rfl
  case pulse => rfl

@[simp] theorem State.cut_cfg (s : State) (i : Instr) : (s.cut i).cfg = s.cfg := by rw [s.cut_eq i]

@[simp] theorem State.cut_rom (s : State) (i : Instr) : (s.cut i).rom = s.rom := by rw [s.cut_eq i]

/-- Power loss is a power-on reset of the state with the instruction at hand cut. -/
theorem State.powerLoss_eq (s : State) :
    s.powerLoss = ((s.instrAtHand.map s.cut).getD s).powerOnReset := by
  unfold State.powerLoss
  cases s.instrAtHand <;> rfl

/-- An instruction is at hand exactly when USEQ would execute a word that decodes to it (rule R226). -/
theorem State.instrAtHand_eq_some_iff (s : State) (i : Instr) :
    s.instrAtHand = some i ↔ ∃ w, s.useqAction = .execute w ∧ decode w = .ok i := by
  unfold State.instrAtHand
  cases s.useqAction with
  | execute w => cases h : decode w <;> simp [h, Except.toOption]
  | locked => simp
  | service => simp
  | asleep => simp

/-! ### What USEQ does next -/

/-- The four cases of rule R226, each with its guard. -/
theorem State.useqAction_cases (s : State) :
    (s.locked = true ∧ s.useqAction = .locked) ∨
    (s.locked = false ∧ s.ie = true ∧ (s.tpend = true ∨ s.ppend = true) ∧ s.useqAction = .service) ∨
    (s.locked = false ∧ (s.ie && (s.tpend || s.ppend)) = false ∧ s.sleeping = true ∧ s.useqAction = .asleep) ∨
    (s.locked = false ∧ (s.ie && (s.tpend || s.ppend)) = false ∧ s.sleeping = false ∧
      s.useqAction = .execute (s.romFetch s.pc)) := by
  unfold State.useqAction
  cases s.locked <;> cases s.ie <;> cases s.tpend <;> cases s.ppend <;> cases s.sleeping <;> simp

/-- What USEQ does next does not depend on the environment. -/
@[simp] theorem State.useqAction_withTurns (s : State) (ts : List Turn) : (s.withTurns ts).useqAction = s.useqAction :=
  rfl

/-- Fetching does not depend on the environment. -/
@[simp] theorem State.romFetch_withTurns (s : State) (ts : List Turn) (a : RomAddr) :
    (s.withTurns ts).romFetch a = s.romFetch a := rfl

/-- A service is one of the two (rule R287). -/
theorem State.service_cases (s : State) :
    (s.tpend = true ∧ s.service = s.serviceTick) ∨ (s.tpend = false ∧ s.service = s.servicePchg) := by
  unfold State.service
  cases s.tpend <;> simp

/-! ### Catalogue lookups -/

/-- The range test as a proposition. -/
theorem inModeRange_iff (c : Config) (m : Byte) :
    inModeRange c m = true ↔ c.startMode ≤ m.toNat ∧ m.toNat < c.modeCount := by
  simp [inModeRange]

/-- What every configuration meets (rule R9). -/
theorem config_constraints (c : Config) :
    c.modeCount = c.startMode + c.profile.size ∧ c.modeCount ≤ 255 ∧ c.startMode ≤ c.defaultMode ∧
      c.defaultMode < c.modeCount ∧ c.modePolicy.length = c.profile.size ∧ c.modeLr.length = c.profile.size := by
  have h := c.ok
  unfold Params.valid at h
  simp only [Bool.and_eq_true, decide_eq_true_eq] at h
  tauto

/-- DEFAULT_MODE and START_MODE fit the register. -/
theorem toNat_defaultMode (c : Config) : (BitVec.ofNat 8 c.defaultMode).toNat = c.defaultMode := by
  have := config_constraints c
  rw [BitVec.toNat_ofNat, Nat.mod_eq_of_lt (by omega)]

theorem toNat_startMode (c : Config) : (BitVec.ofNat 8 c.startMode).toNat = c.startMode := by
  have := config_constraints c
  rw [BitVec.toNat_ofNat, Nat.mod_eq_of_lt (by omega)]

end Sys2Proof.Machine
end

