-- ==== Sys2Proof/Laws/PerInstr.lean ====
section
/-! SUPPORT. A statement about every instruction as syntax, proved constructor by constructor: its word has, under the mask of
its row of the opcode table, the row's match value (rule R96). -/

namespace Sys2Proof.Laws

/-- The mask of an instruction's row (rule R96). -/
def tableMask : Instr → Word
  | .br _ _ _ | .blink _ _ _ => 0xF800
  | .delay _ => 0xFFFC
  | .reserved15 _ | .reserved16 _ | .reserved17 _ | .reserved18 _ | .reserved19 _ | .reserved1A _
  | .reserved1B _ | .reserved1C _ | .reserved1D _ | .reserved1E _ | .reserved1F _ => 0xF800
  | .nop | .nvmld | .nvmst | .cal | .sense | .mtinc | .mtclr | .mtclamp | .ltinc | .ltclr | .modeadv | .sample
  | .pulse | .ei | .di | .srfset | .pbeclr | .sleep => 0xFFFF

/-- The match value of an instruction's row (rule R96). -/
def tableValue : Instr → Word
  | .nop => 0x0000 | .br _ _ _ => 0x0800 | .nvmld => 0x1000 | .nvmst => 0x1800 | .cal => 0x2000
  | .sense => 0x2800 | .mtinc => 0x3000 | .mtclr => 0x3800 | .mtclamp => 0x4000 | .ltinc => 0x4800
  | .ltclr => 0x5000 | .modeadv => 0x5800 | .sample => 0x6000 | .blink _ _ _ => 0x6800 | .pulse => 0x7000
  | .delay _ => 0x7800 | .ei => 0x8000 | .di => 0x8800 | .srfset => 0x9000 | .pbeclr => 0x9800 | .sleep => 0xA000
  | .reserved15 _ => 0xA800 | .reserved16 _ => 0xB000 | .reserved17 _ => 0xB800 | .reserved18 _ => 0xC000
  | .reserved19 _ => 0xC800 | .reserved1A _ => 0xD000 | .reserved1B _ => 0xD800 | .reserved1C _ => 0xE000
  | .reserved1D _ => 0xE800 | .reserved1E _ => 0xF000 | .reserved1F _ => 0xF800

/-- The word of an instruction lies in its row of the opcode table. -/
def TableMatch.Statement (i : Instr) : Prop := encode i &&& tableMask i = tableValue i

/-- A word of an opcode has that opcode's bits under the opcode's mask. -/
theorem reservedWord_mask (op : BitVec 5) (low : BitVec 11) : reservedWord op low &&& 0xF800 = op ++ 0#11 := by
  ext i hi
  simp only [reservedWord, BitVec.getElem_and, BitVec.getElem_append]
  interval_cases i <;> simp

theorem TableMatch.nop : TableMatch.Statement .nop := rfl

theorem TableMatch.nvmld : TableMatch.Statement .nvmld := rfl

theorem TableMatch.nvmst : TableMatch.Statement .nvmst := rfl

theorem TableMatch.cal : TableMatch.Statement .cal := rfl

theorem TableMatch.sense : TableMatch.Statement .sense := rfl

theorem TableMatch.mtinc : TableMatch.Statement .mtinc := rfl

theorem TableMatch.mtclr : TableMatch.Statement .mtclr := rfl

theorem TableMatch.mtclamp : TableMatch.Statement .mtclamp := rfl

theorem TableMatch.ltinc : TableMatch.Statement .ltinc := rfl

theorem TableMatch.ltclr : TableMatch.Statement .ltclr := rfl

theorem TableMatch.modeadv : TableMatch.Statement .modeadv := rfl

theorem TableMatch.sample : TableMatch.Statement .sample := rfl

theorem TableMatch.pulse : TableMatch.Statement .pulse := rfl

theorem TableMatch.ei : TableMatch.Statement .ei := rfl

theorem TableMatch.di : TableMatch.Statement .di := rfl

theorem TableMatch.srfset : TableMatch.Statement .srfset := rfl

theorem TableMatch.pbeclr : TableMatch.Statement .pbeclr := rfl

theorem TableMatch.sleep : TableMatch.Statement .sleep := rfl

theorem TableMatch.br (n : Bool) (c : Cond) (t : RomAddr) : TableMatch.Statement (.br n c t) := by
  unfold TableMatch.Statement tableMask tableValue
  ext i hi
  simp only [encode, BitVec.getElem_and, BitVec.getElem_append]
  interval_cases i <;> simp

theorem TableMatch.blink (p : PatternClass) (s : Bool) (k : BitVec 7) : TableMatch.Statement (.blink p s k) := by
  unfold TableMatch.Statement tableMask tableValue
  ext i hi
  simp only [encode, BitVec.getElem_and, BitVec.getElem_append]
  interval_cases i <;> simp

theorem TableMatch.delay (d : DelaySel) : TableMatch.Statement (.delay d) := by cases d <;> rfl

theorem TableMatch.reserved15 (low : BitVec 11) : TableMatch.Statement (.reserved15 low) :=
  reservedWord_mask 0x15 low

theorem TableMatch.reserved16 (low : BitVec 11) : TableMatch.Statement (.reserved16 low) :=
  reservedWord_mask 0x16 low

theorem TableMatch.reserved17 (low : BitVec 11) : TableMatch.Statement (.reserved17 low) :=
  reservedWord_mask 0x17 low

theorem TableMatch.reserved18 (low : BitVec 11) : TableMatch.Statement (.reserved18 low) :=
  reservedWord_mask 0x18 low

theorem TableMatch.reserved19 (low : BitVec 11) : TableMatch.Statement (.reserved19 low) :=
  reservedWord_mask 0x19 low

theorem TableMatch.reserved1A (low : BitVec 11) : TableMatch.Statement (.reserved1A low) :=
  reservedWord_mask 0x1A low

theorem TableMatch.reserved1B (low : BitVec 11) : TableMatch.Statement (.reserved1B low) :=
  reservedWord_mask 0x1B low

theorem TableMatch.reserved1C (low : BitVec 11) : TableMatch.Statement (.reserved1C low) :=
  reservedWord_mask 0x1C low

theorem TableMatch.reserved1D (low : BitVec 11) : TableMatch.Statement (.reserved1D low) :=
  reservedWord_mask 0x1D low

theorem TableMatch.reserved1E (low : BitVec 11) : TableMatch.Statement (.reserved1E low) :=
  reservedWord_mask 0x1E low

theorem TableMatch.reserved1F (low : BitVec 11) : TableMatch.Statement (.reserved1F low) :=
  reservedWord_mask 0x1F low

end Sys2Proof.Laws
end

