-- ==== Sys2Proof/Laws/Step.lean ====
section
/-! SUPPORT. What one step can do, said once: every statement about a step starts from these cases. -/

namespace Sys2Proof.Machine

/-- A step of USEQ answers one of these (rule R226). -/
theorem useqStep_cases {s t : State} (h : useqStep s = .next t) :
    ((s.useqAction = .locked ∨ s.useqAction = .asleep) ∧ t = s) ∨
    (s.useqAction = .service ∧ t = s.service) ∨
    (∃ w i, s.useqAction = .execute w ∧ decode w = .ok i ∧ exec i s = .next t) ∨
    (∃ w e, s.useqAction = .execute w ∧ decode w = .error e ∧ t = s.raiseIllegal w) := by
  unfold useqStep at h
  cases ha : s.useqAction with
  | locked => simp_all
  | asleep => simp_all
  | service => simp_all
  | execute w =>
    simp only [ha] at h
    cases hd : decode w with
    | ok i =>
      simp only [hd] at h
      exact .inr (.inr (.inl ⟨w, i, rfl, hd, h⟩))
    | error e =>
      simp only [hd, Host.Outcome.next.injEq] at h
      exact .inr (.inr (.inr ⟨w, e, rfl, hd, h.symm⟩))

/-! ### Taking the turn off the list changes the environment alone -/

@[simp] theorem State.turnTaken_mode (s : State) : s.turnTaken.mode = s.mode := rfl
@[simp] theorem State.turnTaken_mt (s : State) : s.turnTaken.mt = s.mt := rfl
@[simp] theorem State.turnTaken_lt (s : State) : s.turnTaken.lt = s.lt := rfl
@[simp] theorem State.turnTaken_thr (s : State) : s.turnTaken.thr = s.thr := rfl
@[simp] theorem State.turnTaken_pbe (s : State) : s.turnTaken.pbe = s.pbe := rfl
@[simp] theorem State.turnTaken_srf (s : State) : s.turnTaken.srf = s.srf := rfl
@[simp] theorem State.turnTaken_ie (s : State) : s.turnTaken.ie = s.ie := rfl
@[simp] theorem State.turnTaken_tpend (s : State) : s.turnTaken.tpend = s.tpend := rfl
@[simp] theorem State.turnTaken_ppend (s : State) : s.turnTaken.ppend = s.ppend := rfl
@[simp] theorem State.turnTaken_ssp (s : State) : s.turnTaken.ssp = s.ssp := rfl
@[simp] theorem State.turnTaken_smd (s : State) : s.turnTaken.smd = s.smd := rfl
@[simp] theorem State.turnTaken_lon (s : State) : s.turnTaken.lon = s.lon := rfl
@[simp] theorem State.turnTaken_sleeping (s : State) : s.turnTaken.sleeping = s.sleeping := rfl
@[simp] theorem State.turnTaken_locked (s : State) : s.turnTaken.locked = s.locked := rfl
@[simp] theorem State.turnTaken_pc (s : State) : s.turnTaken.pc = s.pc := rfl
@[simp] theorem State.turnTaken_pins (s : State) : s.turnTaken.pins = s.pins := rfl
@[simp] theorem State.turnTaken_nvm (s : State) : s.turnTaken.nvm = s.nvm := rfl
@[simp] theorem State.turnTaken_nvmWrites (s : State) : s.turnTaken.nvmWrites = s.nvmWrites := rfl
@[simp] theorem State.turnTaken_trace (s : State) : s.turnTaken.trace = s.trace := rfl
@[simp] theorem State.turnTaken_rom (s : State) : s.turnTaken.rom = s.rom := rfl
@[simp] theorem State.turnTaken_cfg (s : State) : s.turnTaken.cfg = s.cfg := rfl
@[simp] theorem State.turnTaken_env (s : State) : s.turnTaken.env = { s.env with turns := s.env.turns.tail } := rfl
@[simp] theorem State.useqAction_turnTaken (s : State) : s.turnTaken.useqAction = s.useqAction := rfl
@[simp] theorem State.romFetch_turnTaken (s : State) (a : RomAddr) : s.turnTaken.romFetch a = s.romFetch a := rfl

/-- With no turn listed, taking the turn changes nothing. -/
theorem State.turnTaken_of_nil {s : State} (h : s.env.turns = []) : s.turnTaken = s := by
  rw [State.turnTaken, show s.env.turns.tail = s.env.turns by rw [h, List.tail_nil]]
  rfl

/-- Whose turn it is decides what a step is (rule R19). -/
theorem step_cases (s : State) :
    (s.useqTurn = true ∧ s.resetTurn = false ∧ step s = useqStep s.turnTaken) ∨
    (s.useqTurn = false ∧ s.resetTurn = false ∧ s.env.turns.head? = some .tick ∧
      step s = .next s.turnTaken.arriveTick) ∨
    (s.useqTurn = false ∧ s.resetTurn = false ∧ s.env.turns.head? = some .pchg ∧
      step s = .next s.turnTaken.arrivePchg) ∨
    (s.useqTurn = false ∧ s.resetTurn = true ∧ s.env.turns.head? = some .powerOnReset ∧
      step s = .next s.turnTaken.powerOnReset) ∨
    (s.useqTurn = false ∧ s.resetTurn = true ∧ s.env.turns.head? = some .powerLoss ∧
      step s = .next s.turnTaken.powerLoss) := by
  unfold step State.useqTurn State.resetTurn
  cases h : s.env.turns with
  | nil => simp [State.turnTaken_of_nil h]
  | cons t ts => cases t <;> simp [State.turnTaken, h]

/-- On USEQ's turn a step is a step of USEQ. -/
theorem step_of_useqTurn {s : State} (h : s.useqTurn = true) : step s = useqStep s.turnTaken := by
  rcases step_cases s with h' | h' | h' | h' | h' <;> simp_all

/-- A run whose first step answers a next state goes on from there. -/
theorem run_succ {n : Nat} {s t : State} (h : step s = .next t) :
    Host.Core.run Sys2Proof.core (n + 1) s = Host.Core.run Sys2Proof.core n t := by
  have run_core (M : Host.Core) {s t : M.State} (h : M.step s = .next t) : M.run (n + 1) s = M.run n t := by
    simp [Host.Core.run, h]
  exact run_core Sys2Proof.core h

/-- Two states with one list of words and one configuration read the same ROM. -/
theorem sameRom_of_eq {s t : State} (hr : t.rom = s.rom) (hc : t.cfg = s.cfg) : SameRom s t := by
  intro a
  unfold State.romFetch
  rw [hr, hc]

/-- A power-on reset sets what rule R321 says. -/
theorem State.powerOnReset_hasResetValues (s : State) : s.powerOnReset.HasResetValues := by
  constructor
  case mode => exact toNat_defaultMode _
  case status => simp [State.status]
  case pins => simp [State.pinsWord, Pins.idle]
  all_goals rfl

/-! ### Draws used up -/

@[simp] theorem Environment.dischargeUsed_turns (e : Environment) : e.dischargeUsed.turns = e.turns := rfl
@[simp] theorem Environment.buttonsUsed_turns (e : Environment) : e.buttonsUsed.turns = e.turns := rfl
@[simp] theorem Environment.bytesUsed_turns (e : Environment) : e.bytesUsed.turns = e.turns := rfl

@[simp] theorem State.envAfterNvmRead_turns (s : State) : s.envAfterNvmRead.turns = s.env.turns := by
  unfold State.envAfterNvmRead
  split <;> rfl

@[simp] theorem State.afterDischarge_env (s : State) : s.afterDischarge.env = s.env.dischargeUsed := by
  unfold State.afterDischarge Environment.dischargeUsed
  cases h : s.env.discharge <;> simp [h]

@[simp] theorem State.afterButtons_env (s : State) : s.afterButtons.env = s.env.buttonsUsed := by
  unfold State.afterButtons Environment.buttonsUsed
  cases h : s.env.buttons <;> simp [h]

@[simp] theorem State.afterByte_env (s : State) : s.afterByte.env = s.env.bytesUsed := by
  unfold State.afterByte Environment.bytesUsed
  cases h : s.env.bytes <;> simp [h]

@[simp] theorem State.afterNvmRead_env (s : State) : s.afterNvmRead.env = s.envAfterNvmRead := by
  unfold State.afterNvmRead State.envAfterNvmRead
  by_cases h : s.nvmWrites ≤ s.cfg.nvmEndurance
  · rw [State.nvmWorn_of_le h, if_pos h, if_neg Bool.false_ne_true]
  · rw [State.nvmWorn_of_lt (by omega), if_neg h, if_pos rfl, State.afterByte_env]

/-- A write uses a byte draw with IE = 1 or past the endurance (rules R144, R146). -/
theorem State.nvmStore_env (s : State) (v : Byte) :
    (s.nvmStore v).env = if s.ie || s.nvmWorn then s.env.bytesUsed else s.env := by
  unfold State.nvmStore
  split
  · exact s.afterByte_env
  · rfl

/-- The instruction at hand does not depend on the environment. -/
@[simp] theorem State.instrAtHand_turnTaken (s : State) : s.turnTaken.instrAtHand = s.instrAtHand := rfl

/-! ### The next instruction -/

/-- USEQ services a latch exactly when it is not locked, interrupts are on and a latch is set (rule R226). -/
theorem State.useqAction_service_iff (s : State) :
    s.useqAction = .service ↔ s.locked = false ∧ s.ie = true ∧ (s.tpend = true ∨ s.ppend = true) := by
  rcases s.useqAction_cases with h | h | h | h <;> simp_all

/-- USEQ executes the word at PC exactly when it is not locked, has nothing to service and is awake (rule R226). -/
theorem State.useqAction_execute_iff (s : State) (w : Word) :
    s.useqAction = .execute w ↔
      s.locked = false ∧ (s.ie && (s.tpend || s.ppend)) = false ∧ s.sleeping = false ∧ w = s.romFetch s.pc := by
  rcases s.useqAction_cases with ⟨h1, h⟩ | ⟨h1, h2, h3, h⟩ | ⟨h1, h2, h3, h⟩ | ⟨h1, h2, h3, h⟩
  · simp [h, h1]
  · rcases h3 with h3 | h3 <;> simp [h, h2, h3]
  · simp [h, h3]
  · rw [h, h1, h2, h3, UseqAction.execute.injEq]
    simp only [true_and]
    exact eq_comm

/-- A word is next exactly when USEQ has the turn and executes it. -/
theorem State.nextWord_eq_some_iff (s : State) (w : Word) :
    s.nextWord = some w ↔ s.useqTurn = true ∧ s.useqAction = .execute w := by
  unfold State.nextWord
  cases s.useqTurn <;> cases s.useqAction <;> simp

/-- An instruction is next exactly when a word that decodes to it is. -/
theorem State.nextInstr_eq_some_iff (s : State) (i : Instr) :
    s.nextInstr = some i ↔ ∃ w, s.nextWord = some w ∧ decode w = .ok i := by
  unfold State.nextInstr
  cases s.nextWord with
  | none => simp
  | some w => cases h : decode w <;> simp [h, Except.toOption]

end Sys2Proof.Machine
end

