-- ==== Sys2Proof/Laws/Window.lean ====
section
/-! SUPPORT. Under WINDOW the hardware's ROM loses no TICK (rules R330, R345). -/

namespace Sys2Proof.Machine

/-! ### What leads into the tick routine -/

/-- A word that decodes to a branch has opcode 1 and the branch's target in its low bits (rules R92, R97). -/
theorem branch_fields {w : Word} {n : Bool} {k : Cond} {t : RomAddr} (h : decode w = .ok (.br n k t)) :
    opcodeField w = 1 ∧ targetField w = t := by
  unfold decode at h
  split at h <;> simp_all [decodeN, decodeB, decodeK, decodeD] <;> (repeat' split at h) <;> simp_all
  exact BitVec.eq_of_toNat_eq (by assumption)

/-- A word that decodes to SLEEP is SLEEP's word (rules R91, R96, R97). -/
theorem sleep_opcode {w : Word} (h : decode w = .ok .sleep) : opcodeField w = 0x14 := by
  unfold decode at h
  split at h <;> simp_all [decodeN, decodeB, decodeK, decodeD] <;> (repeat' split at h) <;> try simp_all
  exact BitVec.eq_of_toNat_eq (by assumption)

/-- Some configuration, to look up the words of the ROM that do not depend on it. -/
def plainConfig : Config := { Params.smallest with ok := by decide }

/-- The words of the ROM are BLINKs of a configured count or do not depend on the configuration (rule R250). -/
theorem romWord_cases (c : Config) (a : RomAddr) :
    opcodeField (romWord c a.toNat) = 0x0D ∧ (a = 0x02 ∨ a = 0x08 ∨ a = 0x1F ∨ a = 0x2B) ∨
    romWord c a.toNat = romWord plainConfig a.toNat := by
  have blink (k : BitVec 7) :
      opcodeField (0x6800 + k.setWidth 16) = 0x0D ∧ opcodeField (0x6B00 + k.setWidth 16) = 0x0D := by
    revert k
    decide
  have ha := a.isLt
  generalize hm : a.toNat = m at *
  obtain rfl : a = BitVec.ofNat 6 m := BitVec.eq_of_toNat_eq (by rw [hm, BitVec.toNat_ofNat]; omega)
  clear hm
  interval_cases m
  all_goals first
    | exact .inr rfl
    | exact .inl ⟨(blink c.nBoot).1, by decide⟩
    | exact .inl ⟨(blink c.nPre).2, by decide⟩

/-- Outside the tick routine only the BR SRF at 0x17 leads into it (rules R250, R257). -/
theorem tickRoutine_entry (c : Config) {a : RomAddr} {i : Instr} (ha : a.toNat ≤ 0x33) (hout : inTickRoutine a = false)
    (hd : decode (romWord c a.toNat) = .ok i) :
    (a = 0x17 ∧ i = .br false .srf 0x32) ∨
    (inTickRoutine (a + 1) = false ∧ ∀ n k t, i = .br n k t → inTickRoutine t = false) := by
  have table : ∀ a : RomAddr, a.toNat ≤ 0x33 → inTickRoutine a = false →
      (a = 0x17 ∧ decode (romWord plainConfig a.toNat) = .ok (.br false .srf 0x32)) ∨
      (inTickRoutine (a + 1) = false ∧ (opcodeField (romWord plainConfig a.toNat) = 1 →
        inTickRoutine (targetField (romWord plainConfig a.toNat)) = false)) := by decide
  rcases romWord_cases c a with ⟨ho, h⟩ | h
  · refine .inr ⟨?_, ?_⟩
    · rcases h with rfl | rfl | rfl | rfl <;> first | decide | exact absurd hout (by decide)
    · rintro n k t rfl
      exact absurd (ho.symm.trans (branch_fields hd).1) (by decide)
  · rw [h] at hd
    rcases table a ha hout with ⟨rfl, hw⟩ | ⟨h1, h2⟩
    · exact .inl ⟨rfl, (Except.ok.inj (hw.symm.trans hd)).symm⟩
    · refine .inr ⟨h1, ?_⟩
      rintro n k t rfl
      obtain ⟨ho, rfl⟩ := branch_fields hd
      exact h2 ho

/-- The tick routine holds no SLEEP (rule R250). -/
theorem tickRoutine_no_sleep (c : Config) {a : RomAddr} (hin : inTickRoutine a = true) :
    decode (romWord c a.toNat) ≠ .ok .sleep := by
  intro hd
  have table : ∀ a : RomAddr, inTickRoutine a = true → opcodeField (romWord plainConfig a.toNat) ≠ 0x14 := by decide
  have ho := sleep_opcode hd
  rcases romWord_cases c a with ⟨h, -⟩ | h
  · exact absurd (h.symm.trans ho) (by decide)
  · exact table a hin (h ▸ ho)

/-! ### What an instruction does to PC, TPEND and SRF -/

/-- An instruction goes to the next word, to the target of a taken BR, or, raising the fault, nowhere; it leaves TPEND alone
and does not clear SRF (rules R83, R226, R289). -/
theorem exec_flow {i : Instr} {s t : State} (h : exec i s = .next t) :
    (t.pc = s.pc + 1 ∨ t.pc = s.pc ∨ ∃ n k d, i = .br n k d ∧ t.pc = d) ∧ t.tpend = s.tpend ∧
      (s.srf = true → t.srf = true) := by
  cases i <;>
    simp only [exec, execNop, execBr, execNvmld, execNvmst, execCal, execSense, execMtinc, execMtclr, execMtclamp,
      execLtinc, execLtclr, execModeadv, execSample, execBlink, execPulse, execDelay, execEi, execDi, execSrfset,
      execPbeclr, execSleep, execReserved15, execReserved16, execReserved17, execReserved18, execReserved19,
      execReserved1A, execReserved1B, execReserved1C, execReserved1D, execReserved1E, execReserved1F,
      State.afterMeasure_eq, State.blinkTimes_eq, Host.Outcome.next.injEq] at h
  all_goals (try split at h) <;> first | subst h | cases h
  all_goals (try split) <;> simp

/-- With SRF set, no instruction of the hardware's ROM outside the tick routine leads into it (rules R250, R257). -/
theorem exec_stays_outside {s t : State} {i : Instr} (hrom : s.rom = []) (hpc : s.pc.toNat ≤ 0x33) (hsrf : s.srf = true)
    (hout : inTickRoutine s.pc = false) (hd : decode (s.romFetch s.pc) = .ok i) (h : exec i s = .next t) :
    inTickRoutine t.pc = false := by
  rw [show s.romFetch s.pc = romWord s.cfg s.pc.toNat by unfold State.romFetch; rw [hrom]; rfl] at hd
  rcases tickRoutine_entry s.cfg hpc hout hd with ⟨-, rfl⟩ | ⟨hnext, hbr⟩
  · simp only [exec, execBr, Host.Outcome.next.injEq] at h
    subst h
    simp [State.cond, hsrf, inTickRoutine]
  · obtain ⟨hp | hp | ⟨n, k, d, hi, hp⟩, -⟩ := exec_flow h
    · rw [hp]; exact hnext
    · rw [hp]; exact hout
    · rw [hp]; exact hbr n k d hi

/-! ### The invariant, and the law -/

/-- With no TICK under way none is pending; while one is pending or none is under way, the last one is processed and PC is
outside the tick routine. -/
structure TicksInOrder (underWay : Bool) (s : State) : Prop where
  settled : underWay = false → s.tpend = false
  processed : s.tpend = true ∨ underWay = false → s.srf = true ∧ inTickRoutine s.pc = false

/-- It holds after a reset, with no TICK under way (rule R321). -/
theorem ticksInOrder_of_reset {s : State} (h : s.HasResetValues) : TicksInOrder false s :=
  ⟨fun _ => h.tpend, fun _ => ⟨h.srf, by rw [h.pc]; decide⟩⟩

/-- While it holds, a step that no TICK starts while one is under way loses none. -/
theorem TicksInOrder.keeps {u : Bool} {s : State} (h : TicksInOrder u s)
    (harr : (u && decide (s.env.turns.head? = some .tick)) = false) : s.losesTick = false := by
  unfold State.losesTick
  cases hp : s.tpend with
  | false => rfl
  | true =>
    obtain ⟨hs, ho⟩ := h.processed (.inl hp)
    cases u with
    | false => exact absurd (h.settled rfl) (by simp [hp])
    | true => simp_all

/-- A step of USEQ keeps it (rule R226). -/
theorem TicksInOrder.useqStep {u : Bool} {s t : State} (hinv : s.FixedRomInv) (h : TicksInOrder u s)
    (hturn : s.useqTurn = true) (hs : Machine.useqStep s.turnTaken = .next t) :
    TicksInOrder (s.tickUnderWayAfter u) t := by
  have hreset : s.resetTurn = false := by
    unfold State.resetTurn; unfold State.useqTurn at hturn; split <;> simp_all
  have htick : s.env.turns.head? ≠ some .tick := by
    unfold State.useqTurn at hturn; split at hturn <;> simp_all
  have hafter : s.tickUnderWayAfter u =
      if s.nextInstr = some .sleep ∧ s.tpend = false ∧ s.srf = true then false else u := by
    simp [State.tickUnderWayAfter, hreset, htick]
  have hquiet (hn : ∀ w, s.useqAction ≠ .execute w) : s.tickUnderWayAfter u = u := by
    rw [hafter, if_neg]
    rintro ⟨hi, -⟩
    obtain ⟨w, hw, -⟩ := (s.nextInstr_eq_some_iff _).1 hi
    exact hn w ((s.nextWord_eq_some_iff w).1 hw).2
  rcases useqStep_cases hs with ⟨ha, rfl⟩ | ⟨ha, rfl⟩ | ⟨w, i, ha, hd, he⟩ | ⟨w, e, ha, hd, rfl⟩
  all_goals rw [State.useqAction_turnTaken] at ha
  · rw [hquiet (by rcases ha with ha | ha <;> simp [ha])]
    exact ⟨h.settled, h.processed⟩
  · rw [hquiet (by simp [ha])]
    unfold State.service
    split
    next hp =>
      refine ⟨fun _ => rfl, ?_⟩
      rintro (hp' | rfl)
      · cases hp'
      · exact absurd (h.settled rfl) (by simpa using hp)
    next hp => exact ⟨h.settled, h.processed⟩
  · obtain ⟨-, -, -, hw⟩ := (s.useqAction_execute_iff w).1 ha
    subst hw
    obtain ⟨-, htp, hsr⟩ := exec_flow he
    have hout (h1 : s.srf = true) (h2 : inTickRoutine s.pc = false) : t.srf = true ∧ inTickRoutine t.pc = false :=
      ⟨hsr h1, exec_stays_outside (s := s.turnTaken) hinv.romFixed hinv.pcUsed h1 h2 hd he⟩
    rw [hafter]
    split
    next hc =>
      obtain ⟨hi, hp, hsrf⟩ := hc
      obtain ⟨w', hw', hd'⟩ := (s.nextInstr_eq_some_iff _).1 hi
      have hww : w' = s.romFetch s.pc := by
        have := ((s.nextWord_eq_some_iff w').1 hw').2
        rw [ha] at this
        exact (UseqAction.execute.inj this).symm
      have hpcOut : inTickRoutine s.pc = false := by
        refine Bool.eq_false_iff.2 fun hin => tickRoutine_no_sleep s.cfg hin ?_
        rw [← hd', hww]
        unfold State.romFetch
        rw [hinv.romFixed]
        rfl
      exact ⟨fun _ => htp.trans hp, fun _ => hout hsrf hpcOut⟩
    next hc =>
      exact ⟨fun hu => htp.trans (h.settled hu), fun hu =>
        have hu' : s.tpend = true ∨ u = false := hu.imp_left fun hp => htp.symm.trans hp
        hout (h.processed hu').1 (h.processed hu').2⟩
  · obtain ⟨-, -, -, hw⟩ := (s.useqAction_execute_iff w).1 ha
    have hn : s.nextInstr ≠ some .sleep := by
      intro hi
      obtain ⟨w', hw', hd'⟩ := (s.nextInstr_eq_some_iff _).1 hi
      have := ((s.nextWord_eq_some_iff w').1 hw').2
      rw [ha] at this
      cases this
      rw [hd] at hd'
      cases hd'
    rw [hafter, if_neg (fun hc => hn hc.1)]
    exact ⟨h.settled, h.processed⟩

/-- A step that no TICK starts while one is under way keeps it (rule R19). -/
theorem TicksInOrder.step {u : Bool} {s t : State} (hinv : s.FixedRomInv) (h : TicksInOrder u s)
    (harr : (u && decide (s.env.turns.head? = some .tick)) = false) (hs : Machine.step s = .next t) :
    TicksInOrder (s.tickUnderWayAfter u) t := by
  rcases step_cases s with ⟨ht, -, hc⟩ | ⟨-, hr, hh, hc⟩ | ⟨ht, hr, hh, hc⟩ | ⟨-, hr, -, hc⟩ | ⟨-, hr, -, hc⟩
  all_goals rw [hc] at hs
  · exact h.useqStep hinv ht hs
  · cases hs
    have hu : u = false := by simpa [hh] using harr
    have := h.processed (.inr hu)
    simp only [State.tickUnderWayAfter, hr, hh, Bool.false_eq_true, if_false, if_true]
    exact ⟨fun h' => (Bool.noConfusion h'), fun _ => this⟩
  · cases hs
    have hn : s.nextInstr ≠ some .sleep := by
      intro hi
      obtain ⟨w, hw, -⟩ := (s.nextInstr_eq_some_iff _).1 hi
      exact absurd ((s.nextWord_eq_some_iff w).1 hw).1 (by simp [ht])
    rw [show s.tickUnderWayAfter u = u by simp [State.tickUnderWayAfter, hr, hh, hn]]
    exact ⟨h.settled, h.processed⟩
  · cases hs
    rw [show s.tickUnderWayAfter u = false by simp [State.tickUnderWayAfter, hr]]
    exact ticksInOrder_of_reset s.turnTaken.powerOnReset_hasResetValues
  · cases hs
    rw [show s.tickUnderWayAfter u = false by simp [State.tickUnderWayAfter, hr], State.powerLoss_eq]
    exact ticksInOrder_of_reset (State.powerOnReset_hasResetValues _)

/-- Under WINDOW no TICK is lost (rules R330, R345), from every state of the control invariant whose TICKs are in order. The
premise `keeps`, that every step keeps the control invariant, is part of the statement StepKeepsFixedRomInvariant. -/
theorem keepsTicks_of_window (keeps : ∀ s t : State, s.FixedRomInv → step s = .next t → t.FixedRomInv) :
    ∀ (n : Nat) (u : Bool) (s : State), s.FixedRomInv → TicksInOrder u s → windowFor n u s = true →
      s.keepsTicks n = true
  | 0, _, _, _, _, _ => rfl
  | n + 1, u, s, hinv, h, hw => by
    rw [windowFor, Bool.and_eq_true, Bool.not_eq_true'] at hw
    rw [State.keepsTicks, h.keeps hw.1]
    cases hs : step s with
    | next t =>
      have hw2 := hw.2
      rw [hs] at hw2
      simpa using keepsTicks_of_window keeps n _ t (keeps s t hinv hs) (h.step hinv hw.1 hs) hw2
    | fault f => rfl
    | refused r => rfl

/-- From reset, under WINDOW, no TICK is lost, whatever the environment does (rules R321, R345). -/
theorem keepsTicks_after_reset (keeps : ∀ s t : State, s.FixedRomInv → step s = .next t → t.FixedRomInv)
    {s : State} (hinv : s.FixedRomInv) (hreset : s.HasResetValues) (n : Nat) (hw : s.window n = true) :
    s.keepsTicks n = true := by
  unfold State.window at hw
  rw [hreset.tpend, hreset.srf] at hw
  exact keepsTicks_of_window keeps n false s hinv (ticksInOrder_of_reset hreset) hw

end Sys2Proof.Machine
end

