-- ==== Sys2Proof/Tests/Slice0.lean ====
section
/-! SUPPORT. The model's own tests: expected values are the vectors of spec/95_test_vectors.md, or are read off the rule a test
names. At the end, one witness for the hypotheses of each obligation that has any. -/

namespace Sys2Proof.Tests

open Sys2Proof.Machine

/-! ### Configurations and states -/

/-- The parameters of CFG0 (spec 95). -/
def params0 : Params :=
  { Params.smallest with
    itShort := 3
    itMedium := 5
    itLong := 8
    maxLight := 4
    minLightOn := 2
    guardTicks := 3
    defaultMode := 1
    tierOffset := 1
    modePolicy := [.none, .a, .a, .a, .b, .c, .none]
    modeLr := [false, false, true, false, false, false, true]
    nBoot := 3
    nPre := 2
    nvmEndurance := 100000 }

/-- CFG0. -/
def cfg0 : Config := { params0 with ok := by decide }

/-- The P13 configuration of V-BTN: START_MODE = 2, MODE_COUNT = 15. -/
def cfg13 : Config :=
  { Params.smallest with
    profile := .p13
    startMode := 2
    modeCount := 15
    defaultMode := 2
    modePolicy := List.replicate 13 .none
    modeLr := List.replicate 13 false
    ok := by decide }

/-- Every interval and bound 0, every mode an interval mode (rule R219). -/
def cfgZero : Config :=
  { Params.smallest with
    modePolicy := List.replicate 7 .a
    ok := by decide }

/-- The inputs the tests draw. -/
def env0 : Environment :=
  { turns := []
    discharge := [30000]
    buttons := [⟨true, false⟩]
    bytes := [0x5A]
    drawn := 0 }

/-- Reset under CFG0, with the inputs of `env0`. -/
def base : State := { State.firstPowerOn cfg0 with env := env0 }

/-- One field after an outcome that is a next state. -/
def after {α : Type} (o : Host.Outcome State Fault Refusal) (f : State → α) : Option α :=
  match o with
  | .next t => some (f t)
  | .fault _ => none
  | .refused _ => none

/-! ### WellFormed: the one check refuses an ill-formed term -/

theorem test_wellFormed_refuses_two_counts : (Instr.blink .mack true 1).wellFormed = false := by decide

theorem test_wellFormed_accepts_mode_count : (Instr.blink .mack true 0).wellFormed = true := by decide

/-! ### Decoding: words written out from rules R91 to R100; the illegal ones are V-ENC's -/

theorem test_decode_nop : decode 0b00000_00000000000 = .ok .nop := by decide
theorem test_decode_br : decode 0b00001_1_0001_010111 = .ok (.br true .pbe 0x17) := by decide
theorem test_decode_br_last_condition : decode 0b00001_0_1001_111111 = .ok (.br false .imd 0x3F) := by decide
theorem test_decode_nvmld : decode 0b00010_00000000000 = .ok .nvmld := by decide
theorem test_decode_nvmst : decode 0b00011_00000000000 = .ok .nvmst := by decide
theorem test_decode_cal : decode 0b00100_00000000000 = .ok .cal := by decide
theorem test_decode_sense : decode 0b00101_00000000000 = .ok .sense := by decide
theorem test_decode_mtinc : decode 0b00110_00000000000 = .ok .mtinc := by decide
theorem test_decode_mtclr : decode 0b00111_00000000000 = .ok .mtclr := by decide
theorem test_decode_mtclamp : decode 0b01000_00000000000 = .ok .mtclamp := by decide
theorem test_decode_ltinc : decode 0b01001_00000000000 = .ok .ltinc := by decide
theorem test_decode_ltclr : decode 0b01010_00000000000 = .ok .ltclr := by decide
theorem test_decode_modeadv : decode 0b01011_00000000000 = .ok .modeadv := by decide
theorem test_decode_sample : decode 0b01100_00000000000 = .ok .sample := by decide
theorem test_decode_blink_count : decode 0b01101_001_0_0000010 = .ok (.blink .lonc false 2) := by decide
theorem test_decode_blink_mode : decode 0b01101_100_1_0000000 = .ok (.blink .mack true 0) := by decide
theorem test_decode_pulse : decode 0b01110_00000000000 = .ok .pulse := by decide
theorem test_decode_delay : decode 0b01111_000000000_01 = .ok (.delay .settle) := by decide
theorem test_decode_ei : decode 0b10000_00000000000 = .ok .ei := by decide
theorem test_decode_di : decode 0b10001_00000000000 = .ok .di := by decide
theorem test_decode_srfset : decode 0b10010_00000000000 = .ok .srfset := by decide
theorem test_decode_pbeclr : decode 0b10011_00000000000 = .ok .pbeclr := by decide
theorem test_decode_sleep : decode 0b10100_00000000000 = .ok .sleep := by decide
theorem test_decode_reserved15 : decode 0b10101_00000000000 = .ok (.reserved15 0) := by decide
theorem test_decode_reserved16 : decode 0b10110_00000000001 = .ok (.reserved16 1) := by decide
theorem test_decode_reserved17 : decode 0b10111_00000000010 = .ok (.reserved17 2) := by decide
theorem test_decode_reserved18 : decode 0b11000_00000000100 = .ok (.reserved18 4) := by decide
theorem test_decode_reserved19 : decode 0b11001_00000001000 = .ok (.reserved19 8) := by decide
theorem test_decode_reserved1A : decode 0b11010_00000010000 = .ok (.reserved1A 16) := by decide
theorem test_decode_reserved1B : decode 0b11011_00000100000 = .ok (.reserved1B 32) := by decide
theorem test_decode_reserved1C : decode 0b11100_00001000000 = .ok (.reserved1C 64) := by decide
theorem test_decode_reserved1D : decode 0b11101_00010000000 = .ok (.reserved1D 128) := by decide
theorem test_decode_reserved1E : decode 0b11110_00100000000 = .ok (.reserved1E 256) := by decide
theorem test_decode_reserved1F : decode 0b11111_11111111111 = .ok (.reserved1F 0x7FF) := by decide

theorem test_decode_rejects_by_name :
    decode 0x0001 = .error .reservedBitsSet ∧ decode 0x07FF = .error .reservedBitsSet ∧
    decode 0x0A80 = .error .noSuchCondition ∧ decode 0x0BFF = .error .noSuchCondition ∧
    decode 0x6C81 = .error .countWithModeSource ∧ decode 0x6D00 = .error .noSuchPattern ∧
    decode 0x6F7F = .error .noSuchPattern ∧ decode 0x7802 = .error .noSuchDelay ∧
    decode 0x7803 = .error .noSuchDelay ∧ decode 0x7804 = .error .delayBitsSet ∧
    decode 0xA001 = .error .reservedBitsSet := by decide

theorem test_illegal_words :
    illegalWord 0xA7FF = true ∧ illegalWord 0xA800 = true ∧ illegalWord 0xF800 = true ∧ illegalWord 0xFFFF = true ∧
    illegalWord 0xA000 = false ∧ illegalWord 0x0C00 = false ∧ illegalWord 0x6800 = false ∧ illegalWord 0x687F = false := by
  decide

/-- The table's row of BLINK, its word given by its 16 bits. -/
theorem test_decodeTableWord : decodeTableWord 16 0x6902 = some (.blink .lonc false 2) ∧ decodeTableWord 16 0x6D00 = none := by
  decide

/-! ### Sequencer (V-USEQ) -/

theorem test_nop_wraps : after (exec .nop { base with pc := 0x3F }) State.pc = some 0x00 := by decide

theorem test_br_not_pbe_taken :
    after (exec (.br true .pbe 0x17) { base with pc := 0x04 }) State.pc = some 0x17 ∧
    after (exec (.br true .pbe 0x17) { base with pc := 0x04, pbe := true }) State.pc = some 0x05 := by decide

/-- The 16 rows of V-COND: MODE, MT, LT, LON, then IMD, IEL, IFC, EFC. -/
def condRows : List (Byte × Ticks × Ticks × Bool × Bool × Bool × Bool × Bool) :=
  [(0, 8, 4, false, false, false, false, false), (1, 2, 0, false, true, false, false, false),
   (1, 3, 0, false, true, true, true, false), (1, 3, 3, true, true, true, false, false),
   (1, 3, 4, true, true, true, true, false), (2, 4, 4, false, true, false, false, true),
   (2, 3, 4, false, true, false, false, false), (2, 5, 2, false, true, true, true, false),
   (3, 7, 0, false, true, false, false, false), (3, 8, 0, false, true, true, true, false),
   (4, 3, 0, false, true, true, false, false), (4, 4, 0, true, true, true, true, false),
   (5, 5, 4, true, true, true, false, false), (5, 5, 0, false, true, true, true, false),
   (6, 4, 3, false, false, false, false, true), (6, 4, 3, true, false, false, false, true)]

theorem test_conditions : (condRows.all fun (m, mt, lt, lon, imd, iel, ifc, efc) =>
    let s : State := { base with mode := m, mt := mt, lt := lt, lon := lon }
    s.cond .imd == imd && s.cond .iel == iel && s.cond .ifc == ifc && s.cond .efc == efc) = true := by decide

theorem test_ei_then_tick_service :
    after (exec .ei { base with tpend := true }) (fun t => (t.ie, after (step t) fun u => (u.tpend, u.srf, u.pc))) =
      some (true, some (false, false, 0x01)) := by decide

theorem test_di : after (exec .di { base with ie := true }) (fun t => (t.ie, t.pc)) = some (false, 0x01) := by decide

theorem test_sleep_enters :
    after (exec .sleep { base with pc := 0x32, ie := true }) (fun t => (t.sleeping, t.pc)) = some (true, 0x33) := by decide

theorem test_sleep_stays_awake :
    after (exec .sleep { base with pbe := true }) State.sleeping = some false ∧
    after (exec .sleep { base with srf := false }) (fun t => (t.sleeping, t.pc)) = some (false, 0x01) := by decide

/-! ### Light-sensor capture (V-CAP) -/

theorem test_cal_adds_margin :
    after (exec .cal { base with env := { env0 with discharge := [1200] } }) (fun t => (t.thr, t.pinsWord)) =
      some (51200, 0x4) := by decide

theorem test_cal_saturates :
    after (exec .cal { base with env := { env0 with discharge := [4294917295] } }) State.thr = some 4294967295 ∧
    after (exec .cal { base with env := { env0 with discharge := [4294917296] } }) State.thr = some 4294967295 ∧
    after (exec .cal { base with env := { env0 with discharge := [1099511627776] } }) State.thr = some 4294967295 := by
  decide

theorem test_sense_below :
    after (exec .sense { base with thr := 51200, env := { env0 with discharge := [51199] } }) State.lon = some true := by
  decide

theorem test_sense_at_threshold :
    after (exec .sense { base with thr := 51200, lon := true, env := { env0 with discharge := [51200] } })
      (fun t => (t.lon, t.pinsWord)) = some (false, 0x4) := by decide

/-! ### Persistent store (V-NVM) -/

theorem test_nvmld : ([(0xFF, 1), (0x00, 0), (0x05, 5), (0x06, 6), (0x07, 1), (0x09, 1), (0xFE, 1)].all fun (b, m) =>
    after (exec .nvmld { base with nvm := b }) State.mode == some (m : Byte)) = true := by decide

theorem test_nvmst :
    after (exec .nvmst { base with mode := 3, nvm := 2, nvmWrites := 9 }) (fun t => (t.nvm, t.nvmWrites, t.trace)) =
      some (3, 10, [.reset, .nvmWrite 3]) := by decide

theorem test_nvmst_interrupts_on :
    after (exec .nvmst { base with mode := 3, ie := true }) (fun t => (t.nvm, t.nvmWrites, t.trace)) =
      some (0x5A, 1, [.reset, .nvmWrite 3]) := by decide

/-! ### Pulse sequencer (V-SEQ) -/

theorem test_blink_count :
    after (exec (.blink .lonc false 2) base) (fun t => (t.trace, t.pinsWord, t.pc)) =
      some ([.reset, .blink .lonc 2], 0x4, 0x01) := by decide

/-- MODE = 14 under the P13 configuration is mode position 13. -/
theorem test_blink_mode :
    after (exec (.blink .mack true 0) { State.firstPowerOn cfg13 with mode := 14 }) State.trace =
      some [.reset, .blink .mack 13] := by decide

theorem test_pulse : after (exec .pulse base) (fun t => (t.trace, t.pins.act)) = some ([.reset, .pulse], false) := by decide

theorem test_delay : after (exec (.delay .debounce) base) (fun t => (t.pc, t.trace)) = some (0x01, [.reset]) := by decide

/-! ### Buttons and mode cycling (V-BTN) -/

theorem test_sample : after (exec .sample base) (fun t => (t.ssp, t.smd)) = some (true, false) := by decide

/-- Rule R58: with BTN_ACTIVE_LOW = 1 level 0 is the asserted one. -/
theorem test_sample_active_low :
    after (exec .sample { base with cfg := { cfg0 with btnActiveLow := true, ok := by decide } })
      (fun t => (t.ssp, t.smd)) = some (false, true) := by decide

theorem test_pbeclr : after (exec .pbeclr { base with pbe := true }) State.pbe = some false := by decide

theorem test_modeadv : ([(3, 4), (5, 6), (6, 0), (0, 1)].all fun (m, n) =>
    after (exec .modeadv { base with mode := m }) State.mode == some (n : Byte)) = true := by decide

theorem test_modeadv_thirteen :
    after (exec .modeadv { State.firstPowerOn cfg13 with mode := 14 }) State.mode = some 2 ∧
    after (exec .modeadv { State.firstPowerOn cfg13 with mode := 2 }) State.mode = some 3 := by decide

/-! ### Counters (V-CTL) -/

theorem test_mtinc : ([(0, 1), (7, 8), (8, 8)].all fun (m, n) =>
    after (exec .mtinc { base with mt := m }) State.mt == some (n : Ticks)) = true := by decide

theorem test_mtinc_no_wrap :
    after (exec .mtinc { base with
      cfg := { cfg0 with itLong := 0xFFFF, ok := by decide }
      mt := 0xFFFF }) State.mt = some 0xFFFF := by decide

theorem test_mtclr : after (exec .mtclr { base with mt := 8 }) State.mt = some 0 := by decide

/-- The last row is rule R201 outside the reachable range. -/
theorem test_mtclamp : ([(5, 5), (8, 8), (9, 8)].all fun (m, n) =>
    after (exec .mtclamp { base with mt := m }) State.mt == some (n : Ticks)) = true := by decide

theorem test_ltinc : ([(3, 4), (4, 4)].all fun (m, n) =>
    after (exec .ltinc { base with lt := m }) State.lt == some (n : Ticks)) = true := by decide

theorem test_ltclr : after (exec .ltclr { base with lt := 4 }) State.lt = some 0 := by decide

theorem test_srfset : after (exec .srfset { base with srf := false }) State.srf = some true := by decide

/-! ### Services, the fault, reset (V-INT) -/

/-- Vector "illegal word 0xF800 at PC = 0x05", and the same of a rejected word. -/
theorem test_fault : (([0xF800, 0x7804] : List Word).all fun w =>
    after (step (State.withFetchWord { base with pc := 0x05 } 16 w.toNat)) (fun t => (t.locked, t.pc, t.trace)) ==
      some (true, 0x05, [.reset, .fault (.illegal 0x05 w)])) = true := by decide

/-- One word of each reserved opcode raises the fault with that word. -/
theorem test_reserved_rows : (([0xA800, 0xB001, 0xB802, 0xC004, 0xC808, 0xD010, 0xD820, 0xE040, 0xE880, 0xF100, 0xFFFF] :
    List Word).all fun w =>
      after (step (base.withFetchWord 16 w.toNat)) State.trace == some [.reset, .fault (.illegal 0x00 w)]) = true := by
  decide

theorem test_arrival_when_locked :
    after (step { base with locked := true, env := { env0 with turns := [.tick] } })
      (fun t => (t.tpend, after (step t) State.tpend)) = some (true, some true) := by decide

/-- The P6 vector's held arrival: with IE = 0 the next instruction runs. -/
theorem test_held_arrival :
    after (step { base with tpend := true }) (fun t => (t.pc, t.tpend)) = some (0x01, true) := by decide

theorem test_power_on_reset :
    after (step { base with mode := 6, nvm := 6, nvmWrites := 3, ie := true, env := { env0 with turns := [.powerOnReset] } })
      (fun t => (t.mode, t.nvm, t.nvmWrites, t.status, t.trace)) = some (1, 6, 3, 0x002, [.reset, .reset]) := by decide

/-- Rule R161: a reset during the pulse finds Pulse in the trace; so does one during a BLINK find its event (log 14). -/
theorem test_power_loss_during_pulse_and_blink :
    after (step { base with pc := 0x0A, env := { env0 with turns := [.powerLoss] } }) (fun t => (t.trace, t.pinsWord, t.pc)) =
      some ([.reset, .pulse, .reset], 0x4, 0x00) ∧
    after (step { base with pc := 0x02, env := { env0 with turns := [.powerLoss] } }) State.trace =
      some [.reset, .blink .boot 3, .reset] := by decide

/-- Rule R345: a TICK before the iteration of the last one has ended, as in P7, and one before the last one's service. -/
theorem test_window_excludes :
    State.window { base with pc := 0x33, ie := true, sleeping := true, env := { env0 with turns := [.tick, .useq, .tick] } } 3 =
      false ∧
    State.window { base with pc := 0x33, ie := true, sleeping := true, env := { env0 with turns := [.tick, .tick] } } 2 =
      false := by decide

/-- Rule R345: a TICK in boot, in an iteration that a button began, and after the SLEEP of the last one's iteration. -/
theorem test_window_allows :
    State.window { base with env := { env0 with turns := [.useq, .tick] } } 2 = true ∧
    State.window { base with pc := 0x33, ie := true, sleeping := true, env := { env0 with turns := [.pchg, .useq, .tick] } } 3 =
      true ∧
    windowFor 2 true { base with pc := 0x32, ie := true, env := { env0 with turns := [.useq, .tick] } } = true := by decide

/-- Rule R330: a service inside the tick routine loses its TICK, and so does one that finds SRF still clear. -/
theorem test_lost_tick :
    State.keepsTicks 1 { base with pc := 0x19, ie := true, tpend := true } = false ∧
    State.keepsTicks 1 { base with pc := 0x17, ie := true, srf := false, tpend := true } = false ∧
    State.keepsTicks 1 { base with pc := 0x33, ie := true, sleeping := true, tpend := true } = true := by decide

/-- A draw is used up: the first listed, or one more free value (rule R16, log 7). -/
theorem test_draws_are_used :
    after (exec .sense base) State.env = some { env0 with discharge := [] } ∧
    after (exec .sense { base with env := .quiet }) State.env = some { Environment.quiet with drawn := 1 } ∧
    after (exec .sample base) State.env = some { env0 with buttons := [] } ∧
    after (exec .nvmst { base with ie := true }) State.env = some { env0 with bytes := [] } ∧
    after (exec .nvmld base) State.env = some env0 := by decide

/-- Rule R14: START_MODE + 7 must be MODE_COUNT. -/
theorem test_configuration_refused :
    (match State.build { params0 with modeCount := 8 } with
      | .refused r => decide (r = .configurationRefused)
      | .next _ => false
      | .fault _ => false) = true := by decide

/-- A word placed at the reset vector is the first instruction after reset. -/
theorem test_placed_word : (State.reset.withFetchWord 16 0x6902).nextInstr = some (.blink .lonc false 2) := by decide

/-! ### Witnesses: for each obligation with hypotheses, states and operands that meet them, clause by clause -/

theorem test_witness_DecodeEncodeAgree :
    (Instr.blink .mack true 0).wellFormed = true ∧ (Instr.blink .mack false 127).wellFormed = true := by decide

theorem test_witness_EncodeDecodeAgree :
    decode 0x687F = .ok (.blink .boot false 127) ∧ decode 0xFFFF = .ok (.reserved1F 0x7FF) := by decide

/-- An illegal word is next: one of a reserved opcode, one that the decoder rejects. -/
theorem test_witness_IllegalWordsAreTheFiveItems :
    (base.withFetchWord 16 0xA800).nextWord = some 0xA800 ∧ illegalWord 0xA800 = true ∧
    (base.withFetchWord 16 0x0001).nextWord = some 0x0001 ∧ illegalWord 0x0001 = true := by decide

theorem test_witness_StepRunsDecodedInstruction :
    base.useqTurn = true ∧ base.locked = false ∧ (base.ie && (base.tpend || base.ppend)) = false ∧
    base.sleeping = false ∧ decode (base.romFetch base.pc) = .ok .nvmld := by decide

theorem test_witness_StepDoesNotExecuteWhenLockedServicingOrAsleep :
    base.useqTurn = true ∧ base.locked = false ∧
    ({ base with locked := true } : State).useqTurn = true ∧
    ({ base with ie := true, tpend := true } : State).useqTurn = true ∧
    ({ base with ie := true, ppend := true } : State).useqTurn = true ∧
    ({ base with sleeping := true } : State).useqTurn = true := by decide

theorem test_witness_NopOnlyAdvances : ({ base with pc := 0x3F } : State).pc = 0x3F := by decide

theorem test_witness_BranchOnFlag :
    readsPolicy .alw = false ∧ base.CondHolds .alw ∧ readsPolicy .pbe = false ∧ ¬ base.CondHolds .pbe ∧
    readsPolicy .srf = false ∧ base.CondHolds .srf := by
  simp [State.CondHolds, readsPolicy, base, State.firstPowerOn, State.powerOn]

/-- Rows of V-COND in which a policy condition holds and in which it does not, at the first and the last mode. -/
theorem test_witness_BranchOnPolicy :
    readsPolicy .efc = true ∧ ({ base with mode := 6 } : State).ModeInRange ∧
    ({ base with mode := 6, mt := 4, lt := 3 } : State).CondHolds .efc ∧
    ({ base with mode := 0 } : State).ModeInRange ∧ ¬ ({ base with mode := 0, mt := 8, lt := 4 } : State).CondHolds .efc ∧
    ({ base with mode := 1, mt := 3 } : State).CondHolds .iel ∧ ¬ ({ base with mode := 1, mt := 2 } : State).CondHolds .iel := by
  refine ⟨?_, ?_, ?_, ?_, ?_, ?_, ?_⟩ <;> first | decide | (unfold State.CondHolds; decide)

theorem test_witness_EiEnablesAtOnce :
    ({ base with tpend := true } : State).locked = false ∧ ({ base with tpend := true } : State).tpend = true := by decide

theorem test_witness_SleepOnlyWhenNothingPending :
    base.pbe = false ∧ base.srf = true ∧ ({ base with srf := false } : State).srf = false := by decide

theorem test_witness_AsleepWithInterruptsOffStays :
    let s : State := { base with sleeping := true, env := { env0 with turns := [.tick] } }
    s.sleeping = true ∧ s.ie = false ∧ s.resetTurn = false ∧ ∃ t, step s = .next t := ⟨rfl, rfl, rfl, _, rfl⟩

theorem test_witness_CalSetsThreshold : base.dischargeDraw = 30000 := by decide

/-- The draw at the threshold, and below it. -/
theorem test_witness_SenseComparesWithThreshold :
    ({ base with thr := 30000 } : State).dischargeDraw = 30000 ∧ ({ base with thr := 30001 } : State).dischargeDraw = 30000 := by
  decide

/-- A store within its endurance and one past it; every byte of the three clauses can be the one read. -/
theorem test_witness_NvmldLoadsMode :
    let s : State := { base with nvmWrites := 100000 }
    let u : State := { base with nvmWrites := 100001 }
    s.nvmWrites ≤ s.cfg.nvmEndurance ∧ s.nvm = 0xFF ∧
    u.cfg.nvmEndurance < u.nvmWrites ∧ u.byteDraw = 0x5A ∧ u.cfg.modeCount ≤ (0x5A : Byte).toNat ∧
    (0 : Byte).toNat = s.cfg.startMode ∧ (6 : Byte).toNat + 1 = s.cfg.modeCount ∧ (7 : Byte).toNat = s.cfg.modeCount ∧
    (1 : Byte).toNat < cfg13.startMode := by decide

theorem test_witness_NvmstStoresMode :
    let s : State := { base with nvmWrites := 100000 }
    s.ie = false ∧ s.nvmWrites ≤ s.cfg.nvmEndurance := by decide

theorem test_witness_NvmstWithInterruptsOnLeavesAnyByte : ({ base with ie := true } : State).ie = true := by decide

theorem test_witness_WornStoreKeepsNothing :
    let s : State := { base with nvmWrites := 100001 }
    s.cfg.nvmEndurance < s.nvmWrites := by decide

/-- Power fails at an NVMST, a PULSE, a BLINK that counts and one that does not, a CAL and a SENSE, at an instruction that is
none of them, and with none at hand. -/
theorem test_witness_PowerLossCutsWrite :
    (([(0x10, .nvmst), (0x0A, .pulse), (0x11, .blink .mack true 0), (0x02, .blink .boot false 3), (0x01, .cal), (0x19, .sense),
      (0x14, .delay .settle)] : List (RomAddr × Instr)).all fun (pc, i) =>
        State.instrAtHand { base with pc := pc, env := { env0 with turns := [.powerLoss] } } == some i) = true ∧
    base.locked = false ∧ (base.ie && (base.tpend || base.ppend)) = false ∧ base.sleeping = false ∧
    State.blinkCount base false 0 = 0 ∧ ({ base with sleeping := true } : State).instrAtHand = none := by decide

theorem test_witness_BlinkImmediateEmits : 1 ≤ (1 : BitVec 7).toNat ∧ 1 ≤ (127 : BitVec 7).toNat := by decide

theorem test_witness_BlinkModePositionEmits :
    base.cfg.startMode ≤ base.mode.toNat ∧ base.ModeInRange ∧ ({ base with mode := 6 } : State).ModeInRange := by decide

theorem test_witness_BlinkWithBothCountsIsIllegal : (1 : BitVec 7) ≠ 0 ∧ (127 : BitVec 7) ≠ 0 := by decide

/-- N_PRE = 0 and not. -/
theorem test_witness_FireEmitsOnePulse : cfgZero.nPre = 0 ∧ cfg0.nPre ≠ 0 := by decide

theorem test_witness_SampleCapturesLevels : base.buttonsDraw = (true, false) := by decide

/-- Below the range, the last mode but one, the last mode, above the range. -/
theorem test_witness_ModeadvAdvancesAndWraps :
    (1 : Byte).toNat < cfg13.startMode ∧ (5 : Byte).toNat + 1 < cfg0.modeCount ∧ cfg0.modeCount ≤ (6 : Byte).toNat + 1 ∧
    cfg0.modeCount ≤ (7 : Byte).toNat + 1 ∧ cfg0.startMode ≤ (0 : Byte).toNat := by decide

theorem test_witness_ModeCyclingIsCyclic :
    ({ base with mode := 0 } : State).ModeInRange ∧ ({ base with mode := 6 } : State).ModeInRange := by decide

theorem test_witness_MtincSaturates :
    (7 : Ticks).toNat + 1 ≤ maxInt cfg0 ∧ (8 : Ticks).toNat + 1 > maxInt cfg0 := by decide

theorem test_witness_MtclampBounds : (8 : Ticks).toNat ≤ maxInt cfg0 := by decide

theorem test_witness_LtincSaturates :
    (3 : Ticks).toNat + 1 ≤ cfg0.maxLight.toNat ∧ (4 : Ticks).toNat + 1 > cfg0.maxLight.toNat := by decide

theorem test_witness_SaturationLaws :
    ({ base with mt := 8 } : State).mt.toNat ≤ maxInt base.cfg ∧ ({ base with lt := 4 } : State).lt.toNat ≤ base.cfg.maxLight.toNat := by
  decide

theorem test_witness_ConfigurationConsequences :
    let s : State := State.firstPowerOn cfgZero
    maxInt s.cfg ≤ s.cfg.guardTicks.toNat ∧ s.mt.toNat ≤ maxInt s.cfg ∧
    s.cfg.maxLight.toNat ≤ s.cfg.minLightOn.toNat ∧ s.lt.toNat ≤ s.cfg.maxLight.toNat ∧
    s.ModeInRange ∧ s.catalogPolicy ≠ .none ∧ s.catalogInterval = 0 := by decide

/-- Locked on USEQ's turn with a latch set, and locked at a power-on reset. -/
theorem test_witness_LockedUntilReset :
    let s : State := { base with locked := true, tpend := true, ppend := true }
    let u : State := { s with env := { env0 with turns := [.powerOnReset] } }
    s.locked = true ∧ s.resetTurn = false ∧ (∃ t, step s = .next t) ∧
    u.locked = true ∧ u.resetTurn = true ∧ ∃ t, step u = .next t := ⟨rfl, rfl, ⟨_, rfl⟩, rfl, rfl, _, rfl⟩

theorem test_witness_ArrivalsSetLatchesAndCoalesce :
    ({ env0 with turns := [.tick] } : Environment).turns = .tick :: [] ∧
    ({ env0 with turns := [.pchg] } : Environment).turns = .pchg :: [] := by decide

theorem test_witness_TickServicedBeforePinChange :
    let s : State := { base with ie := true, tpend := true, ppend := true, sleeping := true }
    s.env.turns = [] ∧ s.locked = false ∧ s.ie = true ∧ s.tpend = true ∧ s.ppend = true := by decide

theorem test_witness_TimedInstructionsCommuteWithServices :
    (Instr.blink .mack true 0).wellFormed = true ∧ base.ie = false := by decide

theorem test_witness_PowerOnResetSetsEveryRegister :
    ({ base with env := { env0 with turns := [.powerOnReset] } } : State).env.turns = .powerOnReset :: [] := by decide

/-- The reset values, within the endurance and past it, with bytes of the range and outside it, and with N_BOOT = 0 and not. -/
theorem test_witness_BootReachesLoopHead :
    base.HasResetValues ∧ base.rom = [] ∧ base.env.turns = [] ∧ base.nvmWrites ≤ base.cfg.nvmEndurance ∧
    base.cfg.modeCount ≤ base.nvm.toNat ∧ base.cfg.nBoot ≠ 0 ∧ cfgZero.nBoot = 0 ∧
    ({ base with nvm := 6, nvmWrites := 100001 } : State).HasResetValues ∧ (6 : Byte).toNat + 1 = base.cfg.modeCount ∧
    base.cfg.nvmEndurance < 100001 ∧ base.byteDraw = 0x5A ∧ base.cfg.modeCount ≤ (0x5A : Byte).toNat ∧
    ({ base with env := base.envAfterNvmRead } : State).dischargeDraw = 30000 := by
  refine ⟨?_, rfl, rfl, ?_, ?_, ?_, rfl, ?_, rfl, ?_, ?_, ?_, ?_⟩
  case refine_1 => constructor <;> decide
  case refine_5 => constructor <;> decide
  all_goals decide

theorem test_witness_StepKeepsInvariant : base.Inv ∧ ∃ t, step base = .next t := by
  refine ⟨⟨by decide, by decide, by decide, rfl, Memory.nil_wf _⟩, _, rfl⟩

theorem test_witness_StepKeepsFixedRomInvariant :
    base.FixedRomInv ∧ ({ base with pc := 0x33, ie := true, sleeping := true } : State).FixedRomInv ∧
    ∃ t, step base = .next t :=
  ⟨⟨rfl, by decide, by decide, rfl, by decide⟩, ⟨rfl, by decide, by decide, rfl, by decide⟩, _, rfl⟩

/-- Each of the instructions is next at an address of the ROM, with IE as the control invariant has it there. -/
theorem test_witness_FixedRomBracketsPulseAndWrite :
    (([(0x0A, .pulse), (0x10, .nvmst), (0x11, .blink .mack true 0), (0x14, .delay .settle), (0x15, .ei), (0x09, .di),
      (0x32, .sleep), (0x08, .blink .pre false 2), (0x05, .delay .debounce)] : List (RomAddr × Instr)).all fun (pc, i) =>
        State.nextInstr { base with pc := pc, ie := interruptsOnAt pc } == some i) = true ∧
    ({ base with pc := 0x0A } : State).FixedRomInv ∧ ({ base with pc := 0x32, ie := true } : State).FixedRomInv :=
  ⟨by decide, ⟨rfl, by decide, by decide, rfl, by decide⟩, ⟨rfl, by decide, by decide, rfl, by decide⟩⟩

theorem test_witness_ConfigurationAndRomAreNeverWritten : ∃ t, step base = .next t := ⟨_, rfl⟩

/-- Steps that do change MODE, MT, LT and THR. -/
theorem test_witness_DataRegisterWriters :
    base.resetTurn = false ∧ after (step { base with nvm := 5 }) State.mode = some 5 ∧
    after (step { base with pc := 0x18 }) State.mt = some 1 ∧ after (step { base with pc := 0x26 }) State.lt = some 1 ∧
    after (step { base with pc := 0x01 }) State.thr = some 80000 := by decide

/-- For each clause a step that makes the change it speaks of. -/
theorem test_witness_FlagWriters :
    base.resetTurn = false ∧
    after (step { base with ie := true, ppend := true }) (fun t => (t.pbe, t.ppend)) = some (true, false) ∧
    after (step { base with pc := 0x16, pbe := true }) State.pbe = some false ∧
    after (step { base with ie := true, tpend := true, ppend := true }) (fun t => (t.tpend, t.ppend, t.pbe)) =
      some (false, true, false) ∧
    after (step { base with ie := true, tpend := true, sleeping := true }) (fun t => (t.srf, t.tpend, t.sleeping)) =
      some (false, false, false) ∧
    after (step { base with pc := 0x31, srf := false }) State.srf = some true ∧
    after (step { base with pc := 0x03 }) State.ie = some true ∧
    after (step { base with pc := 0x09, ie := true }) State.ie = some false ∧
    after (step { base with pc := 0x06 }) State.ssp = some true ∧
    after (step { base with pc := 0x19, thr := 30001 }) State.lon = some true ∧
    after (step { base with env := { env0 with turns := [.tick] } }) State.tpend = some true ∧
    after (step { base with env := { env0 with turns := [.pchg] } }) State.ppend = some true ∧
    after (step { base with pc := 0x32 }) State.sleeping = some true ∧
    after (step (base.withFetchWord 16 0xF800)) State.locked = some true := by decide

/-- Steps that change the store, a pin and the trace. -/
theorem test_witness_StorePinAndTraceWriters :
    after (step { base with pc := 0x10 }) (fun t => (t.nvm, t.trace)) = some (1, [.reset, .nvmWrite 1]) ∧
    after (step { base with pc := 0x10, env := { env0 with turns := [.powerLoss] } }) State.nvm = some 0x5A ∧
    after (step { base with pc := 0x01, pins := { Pins.idle with senseO := true } }) State.pins = some .idle := by decide

/-- CFG0's parameters meet the constraints; one mode too many breaks the first. -/
theorem test_witness_ConfigurationsOutsideConstraintsAreRefused :
    params0.modeCount = params0.startMode + params0.profile.size ∧ params0.valid = true ∧
    ({ params0 with modeCount := 8 } : Params).modeCount ≠ params0.startMode + params0.profile.size := by decide

/-- A ROM with nothing listed, and one that lists a word at its last address. -/
theorem test_witness_PlacedWordRunsNext : base.rom.wf base.cfg ∧ Memory.wf cfg0 [(0x05, 0xF800), (0x3F, 0x083F)] := by decide

end Sys2Proof.Tests
end

