-- ==== Sys2Proof/Proofs/Scope.lean ====
section
/-! The two statements about the scope of the model (spec 00): the environment's draws are free (rule R16), and building a block
checks exactly the constraints of rule R9 (rule R14). -/

namespace Sys2Proof.Machine

/-! ### Draws that the environment lists -/

/-- The first listed discharge time is the next draw. -/
theorem State.dischargeDraw_of_cons {s : State} {T : Nat} {ts : List Nat} (h : s.env.discharge = T :: ts) :
    s.dischargeDraw = T := by
  simp [State.dischargeDraw, h]

/-- The first listed port levels are the next draw. -/
theorem State.buttonPinsDraw_of_cons {s : State} {l : ButtonPins} {ls : List ButtonPins} (h : s.env.buttons = l :: ls) :
    s.buttonPinsDraw = l := by
  simp [State.buttonPinsDraw, h]

/-- The first listed byte is the next draw. -/
theorem State.byteDraw_of_cons {s : State} {b : Byte} {bs : List Byte} (h : s.env.bytes = b :: bs) : s.byteDraw = b := by
  simp [State.byteDraw, h]

/-- The polarity of rule R58 is its own inverse, so every asserted level has a port level behind it. -/
@[simp] theorem assertedLevel_assertedLevel (c : Config) (level : Bool) :
    assertedLevel c (assertedLevel c level) = level := by
  simp [assertedLevel]

/-- The port levels whose asserted levels are the pair (spray, mode). -/
def portLevels (c : Config) (levels : Bool × Bool) : ButtonPins :=
  { spray := assertedLevel c levels.1, mode := assertedLevel c levels.2 }

/-- Drawn port levels give the asserted levels they were made from. -/
theorem State.buttonsDraw_of_portLevels {s : State} {levels : Bool × Bool}
    (h : s.buttonPinsDraw = portLevels s.cfg levels) : s.buttonsDraw = levels := by
  simp [State.buttonsDraw, h, portLevels]

/-- The environment with one more input of each kind, given before those it already lists. -/
def Environment.giving (e : Environment) (T : Nat) (l : ButtonPins) (b : Byte) : Environment :=
  { e with discharge := T :: e.discharge, buttons := l :: e.buttons, bytes := b :: e.bytes }

@[simp] theorem Environment.giving_turns (e : Environment) (T : Nat) (l : ButtonPins) (b : Byte) :
    (e.giving T l b).turns = e.turns := rfl

/-- Settles O20: the environment lists the wanted values first, the levels mapped to the ports. -/
theorem everyDrawIsPossible : Obligations.EveryDrawIsPossible := by
  intro s T levels b
  refine ⟨s.env.giving T (portLevels s.cfg levels) b, Environment.giving_turns .., ?_, ?_, ?_⟩
  · exact State.dischargeDraw_of_cons rfl
  · exact State.buttonsDraw_of_portLevels (State.buttonPinsDraw_of_cons rfl)
  · exact State.byteDraw_of_cons rfl

/-! ### The constraints of rule R9 -/

/-- The check of TIER_OFFSET along the catalogue, entry by entry. -/
theorem tierOffsetFits_iff (offset m : Nat) (ps : List Policy) :
    tierOffsetFits offset m ps = true ↔ ∀ k, k < ps.length → ps.getD k .none ≠ .none → offset ≤ m + k := by
  induction ps generalizing m with
  | nil => simp [tierOffsetFits]
  | cons p ps ih =>
    have head : (p == .none || decide (offset ≤ m)) = true ↔ (p ≠ .none → offset ≤ m) := by
      simp [Decidable.or_iff_not_imp_left]
    rw [tierOffsetFits, Bool.and_eq_true, head, ih, List.length_cons, Nat.forall_lt_succ_left]
    simp [Nat.add_assoc, Nat.add_comm 1]

/-- The check that building makes is the list of constraints of rule R9. -/
theorem params_valid_iff (p : Params) :
    p.valid = true ↔
      p.modeCount = p.startMode + p.profile.size ∧ p.modeCount ≤ 255 ∧ p.startMode ≤ p.defaultMode ∧
      p.defaultMode < p.modeCount ∧ p.modePolicy.length = p.profile.size ∧ p.modeLr.length = p.profile.size ∧
      ∀ k, k < p.modePolicy.length → p.modePolicy.getD k .none ≠ .none → p.tierOffset ≤ p.startMode + k := by
  simp only [Params.valid, Bool.and_eq_true, decide_eq_true_eq, tierOffsetFits_iff, and_assoc]

/-! ### Building a block -/

/-- Parameters inside the constraints build the block after its first power-on reset. -/
theorem State.build_of_valid {p : Params} (h : p.valid = true) :
    State.build p = .next (.firstPowerOn { p with ok := h }) :=
  dif_pos h

/-- Parameters outside the constraints are refused by name. -/
theorem State.build_of_not_valid {p : Params} (h : ¬ p.valid = true) : State.build p = .refused .configurationRefused :=
  dif_neg h

/-- The first power-on reset is a power-on reset of a block that has recorded nothing yet (rule R320). -/
theorem State.firstPowerOn_eq_powerOnReset (c : Config) :
    State.firstPowerOn c = (State.powerOn c [] .quiet erased 0 []).powerOnReset := rfl

/-- The first power-on reset sets what rule R321 says. -/
theorem State.firstPowerOn_hasResetValues (c : Config) : (State.firstPowerOn c).HasResetValues := by
  rw [State.firstPowerOn_eq_powerOnReset]
  exact State.powerOnReset_hasResetValues _

/-- Settles O59: building decides on `Params.valid`, which is the conjunction of the constraints. -/
theorem configurationsOutsideConstraintsAreRefused : Obligations.ConfigurationsOutsideConstraintsAreRefused := by
  intro p
  rw [← params_valid_iff]
  constructor
  · intro h
    exact ⟨_, State.build_of_valid h, rfl, State.firstPowerOn_hasResetValues _⟩
  · exact State.build_of_not_valid

end Sys2Proof.Machine
end

section
/-! The statements about the state (spec 10): what every step keeps (rules R54 to R57, R59, R71), which steps write each
register, flag, pin and the store (rules R33 to R50, R60), and the packed views STATUS and PINS. All but the last rest on
one inversion of `exec` (`exec_frame`) and one of `step` (`step_effect`). -/

namespace Sys2Proof.Machine

/-! ### What the decoder gives is well-formed -/

/-- A format-N word gives its opcode's mnemonic or nothing (rule R91). -/
theorem eq_of_decodeN {w : Word} {i j : Instr} (h : decodeN w j = .ok i) : i = j := by
  unfold decodeN at h
  split at h
  · exact (Except.ok.inj h).symm
  · cases h

/-- A format-B word gives a BR (rule R92). -/
theorem wellFormed_of_decodeB {w : Word} {i : Instr} (h : decodeB w = .ok i) : i.wellFormed = true := by
  unfold decodeB at h
  split at h
  · cases h; rfl
  · cases h

/-- A format-K word with S = 1 gives a BLINK only when K is zero (rules R93, R101 item 4). -/
theorem wellFormed_of_decodeK {w : Word} {i : Instr} (h : decodeK w = .ok i) : i.wellFormed = true := by
  unfold decodeK at h
  split at h
  · cases h
  · split at h
    · cases h
    next hsk =>
      cases h
      rw [Instr.wellFormed, Bool.eq_false_iff.2 hsk, Bool.not_false]

/-- A format-D word gives a DELAY (rule R94). -/
theorem wellFormed_of_decodeD {w : Word} {i : Instr} (h : decodeD w = .ok i) : i.wellFormed = true := by
  unfold decodeD at h
  split at h
  · split at h
    · cases h; rfl
    · cases h
  · cases h

/-- The decoder never gives the BLINK term that rule R97 excludes. -/
theorem wellFormed_of_decode {w : Word} {i : Instr} (h : decode w = .ok i) : i.wellFormed = true := by
  unfold decode at h
  split at h
  case h_2 => exact wellFormed_of_decodeB h
  case h_14 => exact wellFormed_of_decodeK h
  case h_16 => exact wellFormed_of_decodeD h
  case h_1 | h_3 | h_4 | h_5 | h_6 | h_7 | h_8 | h_9 | h_10 | h_11 | h_12 | h_13 | h_15 | h_17 | h_18 | h_19 | h_20 | h_21 =>
    cases eq_of_decodeN h
    rfl
  all_goals
    cases h
    rfl

/-- A word that decodes to an instruction outside the legal ones is an illegal word (rule R101). -/
theorem illegalWord_of_decode {w : Word} {i : Instr} (hd : decode w = .ok i) (hl : i.legal = false) :
    illegalWord w = true := by
  rw [Instr.legal, wellFormed_of_decode hd, Bool.true_and, Bool.not_eq_false'] at hl
  rw [illegalWord, hd]
  exact hl

/-- When the next instruction is not legal, the next word is illegal. -/
theorem State.nextWord_illegal {s : State} {i : Instr} (hi : s.nextInstr = some i) (hl : i.legal = false) :
    ∃ w, s.nextWord = some w ∧ illegalWord w = true := by
  obtain ⟨w, hw, hd⟩ := (s.nextInstr_eq_some_iff i).1 hi
  exact ⟨w, hw, illegalWord_of_decode hd hl⟩

/-! ### The values written to MODE, MT and LT -/

/-- NVMLD loads a mode of the range, whatever the byte (rules R54, R141). -/
theorem modeOfByte_inRange (c : Config) (b : Byte) :
    c.startMode ≤ (modeOfByte c b).toNat ∧ (modeOfByte c b).toNat < c.modeCount := by
  have hc := config_constraints c
  have hd := toNat_defaultMode c
  unfold modeOfByte
  split_ifs with _ hout
  · omega
  · omega
  · simp only [Bool.or_eq_true, decide_eq_true_eq] at hout
    omega

/-- MODEADV selects a mode of the range, whatever the mode before (rules R54, R183). -/
theorem modeAfter_inRange (c : Config) (m : Byte) :
    c.startMode ≤ (modeAfter c m).toNat ∧ (modeAfter c m).toNat < c.modeCount := by
  have hc := config_constraints c
  have hs := toNat_startMode c
  have hsize : 0 < c.profile.size := by cases c.profile <;> decide
  unfold modeAfter
  split_ifs with hout
  · omega
  · simp only [Bool.or_eq_true, decide_eq_true_eq] at hout
    have hnext : (m + 1).toNat = m.toNat + 1 := by
      rw [BitVec.toNat_add]
      exact Nat.mod_eq_of_lt (show m.toNat + 1 < 256 by omega)
    omega

/-! ### What an instruction can do to each field -/

/-- What instruction `i` can have done between `s` and `t`, field by field; a field without an alternative is left alone
(rules R33 to R50, R59, R60, R71, R83). The
defaults prove it of what is left alone, so that an instance names only the fields that the instruction writes. -/
structure ExecFrame (i : Instr) (s t : State) : Prop where
  cfg : t.cfg = s.cfg := by simp
  rom : t.rom = s.rom := by simp
  tpend : t.tpend = s.tpend := by simp
  ppend : t.ppend = s.ppend := by simp
  mode : t.mode = s.mode ∨ (i = .nvmld ∧ ∃ b, t.mode = modeOfByte s.cfg b) ∨
    (i = .modeadv ∧ t.mode = modeAfter s.cfg s.mode) := by simp
  mt : t.mt = s.mt ∨
    ((i = .mtinc ∨ i = .mtclr ∨ i = .mtclamp) ∧ ∃ n ≤ maxInt s.cfg, t.mt = BitVec.ofNat 16 n) := by simp
  lt : t.lt = s.lt ∨ ((i = .ltinc ∨ i = .ltclr) ∧ ∃ n ≤ s.cfg.maxLight.toNat, t.lt = BitVec.ofNat 16 n) := by simp
  thr : t.thr = s.thr ∨ i = .cal := by simp
  pbe : t.pbe = s.pbe ∨ (i = .pbeclr ∧ t.pbe = false) := by simp
  srf : t.srf = s.srf ∨ (i = .srfset ∧ t.srf = true) := by simp
  ie : t.ie = s.ie ∨ (i = .ei ∧ t.ie = true) ∨ (i = .di ∧ t.ie = false) := by simp
  buttons : (t.ssp = s.ssp ∧ t.smd = s.smd) ∨ i = .sample := by simp
  lon : t.lon = s.lon ∨ i = .sense := by simp
  sleeping : t.sleeping = s.sleeping ∨ (i = .sleep ∧ t.sleeping = true) := by simp
  locked : t.locked = s.locked ∨ i.legal = false := by simp
  pins : t.pins = s.pins ∨
    i = .cal ∨ i = .sense ∨ i = .pulse ∨ (∃ p b k, i = .blink p b k) ∨ i.legal = false := by simp
  pinsIdle : s.pins = .idle → t.pins = .idle := by simp
  store : (t.nvm = s.nvm ∧ t.nvmWrites = s.nvmWrites) ∨ i = .nvmst := by simp
  trace : ∃ es, t.trace = s.trace ++ es ∧ es.length ≤ 1 := by exact ⟨[], by simp⟩

/-- The illegal-word fault locks the block, idles the pins and records its event (rule R289). -/
theorem ExecFrame.raiseIllegal {i : Instr} {s : State} {w : Word} (hl : i.legal = false) :
    ExecFrame i s (s.raiseIllegal w) where
  locked := .inr hl
  pins := by simp [hl]
  trace := ⟨[.fault (.illegal s.pc w)], by simp⟩

/-- `n` blinks drive the indicator and record at most one event (rule R156). -/
theorem execBlink_frame {p : PatternClass} {src : Bool} {k : BitVec 7} {s t : State}
    (h : execBlink p src k s = .next t) : ExecFrame (.blink p src k) s t := by
  unfold execBlink at h
  split at h
  next hsk =>
    cases h
    exact .raiseIllegal (by rw [Instr.legal, Instr.wellFormed, hsk]; rfl)
  next =>
    rw [State.blinkTimes_eq] at h
    cases h
    split
    · exact {}
    · exact {
        pins := by simp
        pinsIdle := fun hp => by simp [hp, Pins.idle]
        trace := ⟨[.blink p (s.blinkCount src k)], by simp⟩ }

/-- Every instruction writes what `ExecFrame` lets it write: each case names the fields that the instruction touches. -/
theorem exec_frame {i : Instr} {s t : State} (h : exec i s = .next t) : ExecFrame i s t := by
  cases i <;> simp only [exec, execCal, execSense, State.afterMeasure_eq] at h
  case nop | delay => cases h; exact {}
  case br => cases h; split <;> exact {}
  case nvmld => cases h; exact { mode := .inr (.inl ⟨rfl, _, rfl⟩) }
  case nvmst => cases h; exact { store := .inr rfl, trace := ⟨[.nvmWrite s.mode], by simp⟩ }
  case cal =>
    cases h
    exact { thr := .inr rfl, pins := .inr (.inl rfl), pinsIdle := fun hp => by simp [hp, Pins.idle] }
  case sense =>
    cases h
    exact { lon := .inr rfl, pins := .inr (.inr (.inl rfl)), pinsIdle := fun hp => by simp [hp, Pins.idle] }
  case mtinc => cases h; exact { mt := .inr ⟨.inl rfl, _, satInc_le _ _, rfl⟩ }
  case mtclr => cases h; exact { mt := .inr ⟨.inr (.inl rfl), 0, Nat.zero_le _, rfl⟩ }
  case mtclamp => cases h; exact { mt := .inr ⟨.inr (.inr rfl), _, Nat.min_le_right _ _, rfl⟩ }
  case ltinc => cases h; exact { lt := .inr ⟨.inl rfl, _, satInc_le _ _, rfl⟩ }
  case ltclr => cases h; exact { lt := .inr ⟨.inr rfl, 0, Nat.zero_le _, rfl⟩ }
  case modeadv => cases h; exact { mode := .inr (.inr ⟨rfl, rfl⟩) }
  case sample => cases h; exact { buttons := .inr rfl }
  case blink => exact execBlink_frame h
  case pulse =>
    cases h
    exact {
      pins := .inr (.inr (.inr (.inl rfl)))
      pinsIdle := fun hp => by simp [hp, Pins.idle]
      trace := ⟨[.pulse], by simp⟩ }
  case ei => cases h; exact { ie := .inr (.inl ⟨rfl, rfl⟩) }
  case di => cases h; exact { ie := .inr (.inr ⟨rfl, rfl⟩) }
  case srfset => cases h; exact { srf := .inr ⟨rfl, rfl⟩ }
  case pbeclr => cases h; exact { pbe := .inr ⟨rfl, rfl⟩ }
  case sleep =>
    cases h
    split
    · exact { sleeping := .inr ⟨rfl, rfl⟩ }
    · exact {}
  all_goals cases h; exact .raiseIllegal rfl

/-- Taking the turn off the list is no part of what an instruction does. -/
theorem ExecFrame.of_turnTaken {i : Instr} {s t : State} (f : ExecFrame i s.turnTaken t) : ExecFrame i s t :=
  { f with }

/-! ### What a step can do -/

/-- What the next step can be, with the state it answers: nothing, a service, an instruction, the illegal-word fault, an
arrival, or a reset, alone or after the instruction that a power loss cuts (rules R19, R226). -/
inductive StepEffect (s : State) : State → Prop where
  | idle : StepEffect s s.turnTaken
  | tickService (hn : s.servicesNext = true) (hp : s.tpend = true) : StepEffect s s.turnTaken.serviceTick
  | pchgService (hn : s.servicesNext = true) (ht : s.tpend = false) (hp : s.ppend = true) :
      StepEffect s s.turnTaken.servicePchg
  | executed {i : Instr} {t : State} (hi : s.nextInstr = some i) (he : exec i s.turnTaken = .next t) : StepEffect s t
  | illegal {w : Word} (hw : s.nextWord = some w) (hill : illegalWord w = true) :
      StepEffect s (s.turnTaken.raiseIllegal w)
  | tick (hh : s.env.turns.head? = some .tick) : StepEffect s s.turnTaken.arriveTick
  | pchg (hh : s.env.turns.head? = some .pchg) : StepEffect s s.turnTaken.arrivePchg
  | reset (hr : s.resetTurn = true) : StepEffect s s.turnTaken.powerOnReset
  | cutReset {i : Instr} (hr : s.resetTurn = true) (hh : s.env.turns.head? = some .powerLoss)
      (hi : s.instrAtHand = some i) : StepEffect s (s.turnTaken.cut i).powerOnReset

/-- A step of USEQ has one of the effects (rule R226). -/
theorem useqStep_effect {s t : State} (hturn : s.useqTurn = true) (h : useqStep s.turnTaken = .next t) :
    StepEffect s t := by
  rcases useqStep_cases h with ⟨-, rfl⟩ | ⟨ha, rfl⟩ | ⟨w, i, ha, hd, he⟩ | ⟨w, e, ha, hd, rfl⟩
  · exact .idle
  · rw [State.useqAction_turnTaken] at ha
    have hn : s.servicesNext = true := by simp [State.servicesNext, hturn, ha]
    obtain ⟨-, -, hlatch⟩ := s.useqAction_service_iff.1 ha
    rcases s.turnTaken.service_cases with ⟨ht, hs⟩ | ⟨ht, hs⟩
    · rw [hs]
      exact .tickService hn ht
    · rw [hs]
      exact .pchgService hn ht (hlatch.resolve_left (Bool.eq_false_iff.1 ht))
  · have hw : s.nextWord = some w := (s.nextWord_eq_some_iff w).2 ⟨hturn, ha⟩
    exact .executed ((s.nextInstr_eq_some_iff i).2 ⟨w, hw, hd⟩) he
  · exact .illegal ((s.nextWord_eq_some_iff w).2 ⟨hturn, ha⟩) (by rw [illegalWord, hd])

/-- Every step has one of the effects (rule R19). -/
theorem step_effect {s t : State} (h : step s = .next t) : StepEffect s t := by
  rcases step_cases s with ⟨ht, -, hc⟩ | ⟨-, -, hh, hc⟩ | ⟨-, -, hh, hc⟩ | ⟨-, hr, -, hc⟩ | ⟨-, hr, hh, hc⟩
  all_goals rw [hc] at h
  · exact useqStep_effect ht h
  · cases h; exact .tick hh
  · cases h; exact .pchg hh
  · cases h; exact .reset hr
  · cases h
    rw [State.powerLoss_eq, State.instrAtHand_turnTaken]
    cases hi : s.instrAtHand with
    | none => exact .reset hr
    | some i => exact .cutReset hr hh hi

/-! ### The data invariant (O51) -/

/-- A number within a bound that fits the counter is stored as it is. -/
theorem toNat_ofNat_le {n M : Nat} (h : n ≤ M) : (BitVec.ofNat 16 n).toNat ≤ M :=
  le_trans (by rw [BitVec.toNat_ofNat]; exact Nat.mod_le _ _) h

/-- Every instruction keeps the data invariant (rules R54 to R57, R220). -/
theorem ExecFrame.inv {i : Instr} {s t : State} (f : ExecFrame i s t) (h : s.Inv) : t.Inv where
  modeInRange := by
    unfold State.ModeInRange
    rw [f.cfg]
    rcases f.mode with hm | ⟨-, b, hm⟩ | ⟨-, hm⟩
    all_goals rw [hm]
    · exact h.modeInRange
    · exact modeOfByte_inRange s.cfg b
    · exact modeAfter_inRange s.cfg s.mode
  mtBounded := by
    rw [f.cfg]
    rcases f.mt with hm | ⟨-, n, hn, hm⟩
    all_goals rw [hm]
    · exact h.mtBounded
    · exact toNat_ofNat_le hn
  ltBounded := by
    rw [f.cfg]
    rcases f.lt with hl | ⟨-, n, hn, hl⟩
    all_goals rw [hl]
    · exact h.ltBounded
    · exact toNat_ofNat_le hn
  pinsIdle := f.pinsIdle h.pinsIdle
  romCanonical := by
    rw [f.cfg, f.rom]
    exact h.romCanonical

/-- After a power-on reset the data invariant holds, whatever the registers held before (rule R321). -/
theorem State.powerOnReset_inv {s : State} (hrom : s.rom.wf s.cfg) : s.powerOnReset.Inv where
  modeInRange := by
    have hc := config_constraints s.cfg
    have hm := toNat_defaultMode s.cfg
    unfold State.ModeInRange
    rw [State.powerOnReset_mode, State.powerOnReset_cfg, hm]
    omega
  mtBounded := Nat.zero_le _
  ltBounded := Nat.zero_le _
  pinsIdle := rfl
  romCanonical := hrom

/-- Settles O51: an instruction writes values of the range, a reset its own, and no other step writes these fields. -/
theorem stepKeepsInvariant : Obligations.StepKeepsInvariant := by
  intro s t h hstep
  cases step_effect hstep with
  | idle | tickService | pchgService | tick | pchg =>
    exact ⟨h.modeInRange, h.mtBounded, h.ltBounded, h.pinsIdle, h.romCanonical⟩
  | illegal => exact ⟨h.modeInRange, h.mtBounded, h.ltBounded, rfl, h.romCanonical⟩
  | executed _ he => exact (exec_frame he).of_turnTaken.inv h
  | reset => exact State.powerOnReset_inv h.romCanonical
  | cutReset =>
    apply State.powerOnReset_inv
    rw [State.cut_rom, State.cut_cfg]
    exact h.romCanonical

/-! ### The configuration and the control ROM (O55) -/

/-- Settles O55: no effect of a step touches the configuration or the ROM's words. -/
theorem configurationAndRomAreNeverWritten : Obligations.ConfigurationAndRomAreNeverWritten := by
  intro s t hstep
  have hkept : t.cfg = s.cfg ∧ t.rom = s.rom := by
    cases step_effect hstep with
    | idle | tickService | pchgService | illegal | tick | pchg | reset => exact ⟨rfl, rfl⟩
    | executed _ he => exact ⟨(exec_frame he).cfg, (exec_frame he).rom⟩
    | cutReset => exact ⟨by simp, by simp⟩
  exact ⟨hkept.1, hkept.2, sameRom_of_eq hkept.2 hkept.1⟩

/-! ### The writers of the data registers (O56) -/

/-- Settles O56: of the steps that are no reset, only instructions write the data registers, each its own. -/
theorem dataRegisterWriters : Obligations.DataRegisterWriters := by
  intro s t hreset hstep
  cases step_effect hstep with
  | idle | tickService | pchgService | illegal | tick | pchg => simp
  | reset hr | cutReset hr => rw [hreset] at hr; cases hr
  | @executed i _ hi he =>
    have f := (exec_frame he).of_turnTaken
    rw [hi]
    refine ⟨fun hne => ?_, fun hne => ?_, fun hne => ?_, fun hne => ?_⟩
    · rcases f.mode.resolve_left hne with ⟨rfl, -⟩ | ⟨rfl, -⟩ <;> simp
    · obtain ⟨rfl | rfl | rfl, -⟩ := f.mt.resolve_left hne <;> simp
    · obtain ⟨rfl | rfl, -⟩ := f.lt.resolve_left hne <;> simp
    · rw [f.thr.resolve_left hne]

/-! ### The writers of the flags and latches (O57) -/

/-- A flag that is set has changed. -/
theorem ne_of_set {a b : Bool} (ha : a = false) (hb : b = true) : b ≠ a := by
  rw [ha, hb]
  decide

/-- A flag that is cleared has changed. -/
theorem ne_of_cleared {a b : Bool} (ha : a = true) (hb : b = false) : b ≠ a := by
  rw [ha, hb]
  decide

/-- Settles O57: a service writes its own flag, latch and SLEEPING, an arrival its latch, an illegal word LOCKED; an instruction
changes a flag only if it is the one that `ExecFrame` names for it. -/
theorem flagWriters : Obligations.FlagWriters := by
  intro s t hreset hstep
  cases step_effect hstep with
  | idle => simp +contextual
  | tickService hn hp => simp +contextual [hn, hp]
  | pchgService hn ht hp => simp +contextual [hn, ht, hp]
  | tick hh => simp +contextual [hh]
  | pchg hh => simp +contextual [hh]
  | @illegal w hw hill => simp +contextual [hw, hill]
  | reset hr | cutReset hr => rw [hreset] at hr; cases hr
  | @executed i _ hi he =>
    have f := (exec_frame he).of_turnTaken
    refine ⟨fun h h' => ?_, fun h h' => ?_, fun h h' => ?_, fun h h' => ?_, fun h h' => ?_, fun h h' => ?_,
      fun hne => ?_, fun hne => ?_, fun h h' => absurd f.tpend (ne_of_set h h'),
      fun h h' => absurd f.ppend (ne_of_set h h'), fun h h' => absurd f.tpend (ne_of_cleared h h'),
      fun h h' => absurd f.ppend (ne_of_cleared h h'), fun h h' => ?_, fun h h' => ?_, fun h h' => ?_⟩
    · obtain ⟨-, hclr⟩ := f.pbe.resolve_left (ne_of_set h h')
      cases h'.symm.trans hclr
    · obtain ⟨rfl, -⟩ := f.pbe.resolve_left (ne_of_cleared h h')
      exact hi
    · obtain ⟨-, hset⟩ := f.srf.resolve_left (ne_of_cleared h h')
      cases h'.symm.trans hset
    · obtain ⟨rfl, -⟩ := f.srf.resolve_left (ne_of_set h h')
      exact hi
    · rcases f.ie.resolve_left (ne_of_set h h') with ⟨rfl, -⟩ | ⟨-, hclr⟩
      · exact hi
      · cases h'.symm.trans hclr
    · rcases f.ie.resolve_left (ne_of_cleared h h') with ⟨-, hset⟩ | ⟨rfl, -⟩
      · cases h'.symm.trans hset
      · exact hi
    · obtain rfl := f.buttons.resolve_left (by tauto)
      exact hi
    · obtain rfl := f.lon.resolve_left hne
      exact hi
    · obtain ⟨rfl, -⟩ := f.sleeping.resolve_left (ne_of_set h h')
      exact hi
    · obtain ⟨-, hset⟩ := f.sleeping.resolve_left (ne_of_cleared h h')
      cases h'.symm.trans hset
    · exact State.nextWord_illegal hi (f.locked.resolve_left (ne_of_set h h'))

/-! ### The writers of the store, the pins and the trace (O58) -/

/-- An instruction other than NVMST, cut by power loss, leaves the store alone (rule R145). -/
theorem State.cut_store (s : State) {i : Instr} (hi : i ≠ .nvmst) :
    (s.cut i).nvm = s.nvm ∧ (s.cut i).nvmWrites = s.nvmWrites := by
  cases i with
  | nvmst => exact absurd rfl hi
  | blink => simp only [State.cut, State.blinkTimes_eq]; split <;> exact ⟨rfl, rfl⟩
  | _ => simp [State.cut]

/-- A cut instruction records at most its own event (rules R145, R156, R161). -/
theorem State.cut_trace (s : State) (i : Instr) : ∃ es, (s.cut i).trace = s.trace ++ es ∧ es.length ≤ 1 := by
  cases i with
  | nvmst => exact ⟨[.nvmWrite s.mode], by simp [State.cut]⟩
  | pulse => exact ⟨[.pulse], by simp [State.cut]⟩
  | blink p src k =>
    simp only [State.cut, State.blinkTimes_eq]
    split
    · exact ⟨[], by simp⟩
    · exact ⟨[.blink p (s.blinkCount src k)], by simp⟩
  | _ => exact ⟨[], by simp [State.cut]⟩

/-- Settles O58: NVMST, whole or cut, is the one writer of the store; a driving instruction, the fault or a reset leaves the
pins changed; an instruction records at most one event, and a reset its own after it. -/
theorem storePinAndTraceWriters : Obligations.StorePinAndTraceWriters := by
  intro s t hstep
  cases step_effect hstep with
  | idle | tickService | pchgService | tick | pchg => simp
  | @illegal w hw hill => exact ⟨by simp, by simp [hw, hill], [.fault (.illegal s.pc w)], by simp⟩
  | reset hr => exact ⟨by simp, fun _ => .inl hr, [.reset], by simp⟩
  | @cutReset i hr hh hi =>
    refine ⟨fun hne => ?_, fun _ => .inl hr, ?_⟩
    · have hcut : i = .nvmst := by
        by_contra hi'
        obtain ⟨hnvm, hwrites⟩ := s.turnTaken.cut_store hi'
        exact hne.elim (absurd hnvm) (absurd hwrites)
      exact .inr ⟨hh, hcut ▸ hi⟩
    · obtain ⟨es, htr, hlen⟩ := s.turnTaken.cut_trace i
      exact ⟨es ++ [.reset], by simp [htr], by simp [hlen]⟩
  | @executed i _ hi he =>
    have f := (exec_frame he).of_turnTaken
    obtain ⟨es, htr, hlen⟩ := f.trace
    refine ⟨fun hne => ?_, fun hne => ?_, es, htr, by omega⟩
    · obtain rfl := f.store.resolve_left (by tauto)
      exact .inl hi
    · rcases f.pins.resolve_left hne with rfl | rfl | rfl | ⟨p, b, k, rfl⟩ | hl
      · exact .inr (.inl hi)
      · exact .inr (.inr (.inl hi))
      · exact .inr (.inr (.inr (.inl hi)))
      · exact .inr (.inr (.inr (.inr (.inl ⟨p, b, k, hi⟩))))
      · exact .inr (.inr (.inr (.inr (.inr (State.nextWord_illegal hi hl)))))

/-! ### The packed views (O49) -/

/-- Settles O49: each view is its fields side by side, so bit `n` is the `n`-th field. -/
theorem statusAndPinsBits : Obligations.StatusAndPinsBits := by
  refine ⟨fun s => ?_, fun s => ?_⟩
  · simp only [State.status, State.pinsWord, BitVec.getLsbD_append]
    simp
  · have hreset := s.powerOnReset_hasResetValues
    exact ⟨hreset.status, hreset.pins⟩

end Sys2Proof.Machine
end

section
/-! The statement about the control ROM (spec 20): the word that `State.withFetchWord` places is the one the next step decodes
(rule R72, log 5). It is put together from the laws of `Memory.write` and from what the next word is. -/

namespace Sys2Proof.Machine

/-! ### What placing a word changes and keeps -/

@[simp] theorem State.withFetchWord_cfg (s : State) (nbits w : Nat) : (s.withFetchWord nbits w).cfg = s.cfg := rfl

/-- A word of 16 bits is written to the ROM whole, at PC (rule R90). -/
@[simp] theorem State.withFetchWord_rom (s : State) (w : Word) :
    (s.withFetchWord 16 w.toNat).rom = s.rom.write s.cfg s.pc w := by
  have hw : BitVec.ofNat 16 (w.toNat % 2 ^ 16) = w := by
    rw [Nat.mod_eq_of_lt w.isLt, BitVec.ofNat_toNat, BitVec.setWidth_eq]
  simp only [State.withFetchWord, hw]

/-- Placing a word gives the turn to USEQ, before the turns already listed. -/
@[simp] theorem State.withFetchWord_useqTurn (s : State) (nbits w : Nat) : (s.withFetchWord nbits w).useqTurn = true := by
  unfold State.withFetchWord State.useqTurn
  cases s.env.turns <;> rfl

/-- A latch stays set only where interrupts are off, so none is serviced before the placed word. -/
theorem State.withFetchWord_noService (s : State) (nbits w : Nat) :
    ((s.withFetchWord nbits w).ie && ((s.withFetchWord nbits w).tpend || (s.withFetchWord nbits w).ppend)) = false := by
  unfold State.withFetchWord
  cases s.ie <;> simp

/-- With a word placed, USEQ executes what the ROM reads at PC (rule R226). -/
theorem State.withFetchWord_useqAction (s : State) (nbits w : Nat) :
    (s.withFetchWord nbits w).useqAction = .execute ((s.withFetchWord nbits w).romFetch s.pc) :=
  (State.useqAction_execute_iff _ _).2 ⟨rfl, s.withFetchWord_noService nbits w, rfl, rfl⟩

/-! ### The ROM with a word placed (rule R72) -/

/-- The placed word is read back at PC. -/
theorem State.romFetch_withFetchWord_same {s : State} (h : s.rom.wf s.cfg) (w : Word) :
    (s.withFetchWord 16 w.toNat).romFetch s.pc = w := by
  rw [State.romFetch, State.withFetchWord_rom, State.withFetchWord_cfg, Memory.read_write_same h]

/-- Every other address reads as before. -/
theorem State.romFetch_withFetchWord_other {s : State} (h : s.rom.wf s.cfg) (w : Word) {a : RomAddr} (ha : a ≠ s.pc) :
    (s.withFetchWord 16 w.toNat).romFetch a = s.romFetch a := by
  rw [State.romFetch, State.withFetchWord_rom, State.withFetchWord_cfg, Memory.read_write_other h ha, State.romFetch]

/-- Placing a word keeps the canonical form of the ROM (log 4). -/
theorem State.withFetchWord_rom_wf {s : State} (h : s.rom.wf s.cfg) (w : Word) :
    (s.withFetchWord 16 w.toNat).rom.wf s.cfg := by
  rw [State.withFetchWord_rom]
  exact Memory.write_wf h s.pc w

/-- Settles O60: the ROM's part is the laws of `Memory.write` at PC; the word is next because USEQ has the turn and executes
what it reads at PC. -/
theorem placedWordRunsNext : Obligations.PlacedWordRunsNext := by
  intro s w hwf
  have hread : (s.withFetchWord 16 w.toNat).romFetch s.pc = w := State.romFetch_withFetchWord_same hwf w
  have hnext : (s.withFetchWord 16 w.toNat).nextWord = some w := by
    refine (State.nextWord_eq_some_iff _ w).2 ⟨s.withFetchWord_useqTurn 16 w.toNat, ?_⟩
    rw [State.withFetchWord_useqAction, hread]
  exact ⟨hread, State.withFetchWord_rom_wf hwf w, fun a ha => State.romFetch_withFetchWord_other hwf w ha, hnext⟩

end Sys2Proof.Machine
end

section
/-! The statements about the encoding (spec 30): decode and encode agree both ways (rules R91 to R97), the illegal words are
the five items of rule R101 and each raises the fault, and the hints of rule R102 only advance PC. The converse direction and
the illegal words rest on one inversion of `decode` (`decode_format`), the fault on one rule for the rows that raise it
(`exec_of_reservedRow`). -/

namespace Sys2Proof

/-! ### Words put together from their parts -/

/-- Two vectors side by side are the sum of the upper one, moved up, and the lower one. -/
theorem append_eq_add {m n : Nat} (x : BitVec m) (y : BitVec n) : x ++ y = x ++ 0#n + y.setWidth (m + n) := by
  have lower : 0#m ++ y = y.setWidth (m + n) := by
    rw [BitVec.setWidth_eq_append (Nat.le_add_left n m)]
    exact BitVec.eq_of_toNat_eq (by simp)
  rw [← lower, BitVec.append_zero_add_zero_append]

/-- A word is put together from its opcode, given as a number, and its low bits. -/
theorem reservedWord_of_opcode {w : Word} {n : Nat} (hop : (opcodeField w).toNat = n) :
    reservedWord (BitVec.ofNat 5 n) (lowField w) = w := by
  subst hop
  rw [BitVec.ofNat_toNat, BitVec.setWidth_eq, reservedWord_fields]

/-! ### Codes that name nothing -/

/-- The codes that name no condition (rule R98). -/
theorem Cond.ofCode_eq_none_iff (b : BitVec 4) : Cond.ofCode b = none ↔ 10 ≤ b.toNat := by
  revert b
  decide

/-- The codes that name no pattern class (rule R99). -/
theorem PatternClass.ofCode_eq_none_iff (b : BitVec 3) : PatternClass.ofCode b = none ↔ 5 ≤ b.toNat := by
  revert b
  decide

/-- The codes that name no delay selector (rule R100). -/
theorem DelaySel.ofCode_eq_none_iff (b : BitVec 2) : DelaySel.ofCode b = none ↔ 2 ≤ b.toNat := by
  revert b
  decide

/-! ### The fields as numbers -/

theorem opcodeField_toNat (w : Word) : (opcodeField w).toNat = w.toNat / 2048 := by
  have := w.isLt
  rw [opcodeField, BitVec.extractLsb'_toNat, Nat.shiftRight_eq_div_pow]
  omega

theorem lowField_toNat (w : Word) : (lowField w).toNat = w.toNat % 2048 := by
  rw [lowField, BitVec.extractLsb'_toNat, Nat.shiftRight_zero]

theorem conditionField_toNat (w : Word) : (conditionField w).toNat = w.toNat / 64 % 16 := by
  rw [conditionField, BitVec.extractLsb'_toNat, Nat.shiftRight_eq_div_pow]

theorem patternField_toNat (w : Word) : (patternField w).toNat = w.toNat / 256 % 8 := by
  rw [patternField, BitVec.extractLsb'_toNat, Nat.shiftRight_eq_div_pow]

theorem sourceField_eq (w : Word) : sourceField w = decide (w.toNat / 128 % 2 = 1) := by
  rw [sourceField, BitVec.getLsbD, Nat.testBit_eq_decide_div_mod_eq]

theorem countField_toNat (w : Word) : (countField w).toNat = w.toNat % 128 := by
  rw [countField, BitVec.extractLsb'_toNat, Nat.shiftRight_zero]

theorem delayReservedField_toNat (w : Word) : (delayReservedField w).toNat = w.toNat / 4 % 512 := by
  rw [delayReservedField, BitVec.extractLsb'_toNat, Nat.shiftRight_eq_div_pow]

theorem delayField_toNat (w : Word) : (delayField w).toNat = w.toNat % 4 := by
  rw [delayField, BitVec.extractLsb'_toNat, Nat.shiftRight_zero]

end Sys2Proof

namespace Sys2Proof.Machine

/-! ### Decoding the word of an instruction (O1) -/

/-- The word of a BR decodes field by field to that BR (rule R92). -/
theorem decode_encode_br (n : Bool) (c : Cond) (t : RomAddr) : decode (encode (.br n c t)) = .ok (.br n c t) := by
  have hformat : decode (encode (.br n c t)) = decodeB (encode (.br n c t)) := by
    rw [decode, opcodeField_br]
    rfl
  rw [hformat]
  simp only [decodeB, conditionField_br, Cond.ofCode_code, negateField_br, targetField_br]

/-- The word of a BLINK whose S and K fields go together decodes field by field to that BLINK (rule R93). -/
theorem decode_encode_blink {p : PatternClass} {s : Bool} {k : BitVec 7} (hwf : (Instr.blink p s k).wellFormed = true) :
    decode (encode (.blink p s k)) = .ok (.blink p s k) := by
  have hformat : decode (encode (.blink p s k)) = decodeK (encode (.blink p s k)) := by
    rw [decode, opcodeField_blink]
    rfl
  have hsk : (s && k != 0) = false := by
    simpa only [Instr.wellFormed, Bool.not_eq_true'] using hwf
  rw [hformat]
  simp only [decodeK, patternField_blink, PatternClass.ofCode_code, sourceField_blink, countField_blink, hsk,
    Bool.false_eq_true, if_false]

/-- Settles O1: a word with no operand, or a DELAY's, is one literal; the words of the other rows give back the fields they
were made of. -/
theorem decodeEncodeAgree : Obligations.DecodeEncodeAgree := by
  intro i hwf
  cases i with
  | br n c t => exact decode_encode_br n c t
  | blink p s k => exact decode_encode_blink hwf
  | delay d => cases d <;> rfl
  | nop | nvmld | nvmst | cal | sense | mtinc | mtclr | mtclamp | ltinc | ltclr | modeadv | sample | pulse | ei | di
  | srfset | pbeclr | sleep => rfl
  | reserved15 | reserved16 | reserved17 | reserved18 | reserved19 | reserved1A | reserved1B | reserved1C | reserved1D
  | reserved1E | reserved1F => simp [encode, decode]

/-- An instruction and the word that `encode` writes for it stand for each other. -/
theorem hasWord_of_encode {i : Instr} {w : Word} (hwf : i.wellFormed = true) (h : encode i = w) : HasWord i w :=
  ⟨h, h ▸ decodeEncodeAgree i hwf⟩

/-- Settles O4: each word is the word of its instruction. -/
theorem wordsOfEachFormatDecode : Obligations.WordsOfEachFormatDecode :=
  ⟨decodeEncodeAgree (.br true .pbe 0x17) rfl, decodeEncodeAgree (.br false .imd 0x3F) rfl,
    decodeEncodeAgree (.blink .lonc false 2) rfl, decodeEncodeAgree (.blink .mack true 0) rfl,
    decodeEncodeAgree (.delay .settle) rfl, decodeEncodeAgree .sleep rfl, decodeEncodeAgree .sense rfl,
    decodeEncodeAgree .nvmst rfl, decodeEncodeAgree .modeadv rfl, decodeEncodeAgree .mtclamp rfl⟩

/-! ### Which format reads a word -/

/-- How the decoder reads a word: in the format of its opcode (rules R91 to R94), or as a reserved row (rule R96). -/
inductive DecodeFormat (w : Word) : Prop where
  | formatN (j : Instr)
      (hop : (opcodeField w).toNat < 0x15 ∧ (opcodeField w).toNat ≠ 0x01 ∧ (opcodeField w).toNat ≠ 0x0D ∧
        (opcodeField w).toNat ≠ 0x0F)
      (hd : decode w = decodeN w j) (hrow : j.reservedRow = false) (hw : lowField w = 0 → encode j = w)
  | formatB (hop : (opcodeField w).toNat = 0x01) (hd : decode w = decodeB w)
  | formatK (hop : (opcodeField w).toNat = 0x0D) (hd : decode w = decodeK w)
  | formatD (hop : (opcodeField w).toNat = 0x0F) (hd : decode w = decodeD w)
  | reserved (i : Instr) (hop : 0x15 ≤ (opcodeField w).toNat) (hd : decode w = .ok i) (hrow : i.reservedRow = true)
      (hw : encode i = w)

/-- Every word is read in one of the formats: the arms of the decoder, once (rule R97). -/
theorem decode_format (w : Word) : DecodeFormat w := by
  have hd : decode w = decode w := rfl
  conv_rhs at hd => unfold decode
  split at hd
  case h_2 hop => exact .formatB hop hd
  case h_14 hop => exact .formatK hop hd
  case h_16 hop => exact .formatD hop hd
  case h_1 hop | h_3 hop | h_4 hop | h_5 hop | h_6 hop | h_7 hop | h_8 hop | h_9 hop | h_10 hop | h_11 hop | h_12 hop
      | h_13 hop | h_15 hop | h_17 hop | h_18 hop | h_19 hop | h_20 hop | h_21 hop =>
    refine .formatN _ (by omega) hd rfl fun hlow => ?_
    rw [← reservedWord_of_opcode hop, hlow]
    rfl
  case h_22 hop | h_23 hop | h_24 hop | h_25 hop | h_26 hop | h_27 hop | h_28 hop | h_29 hop | h_30 hop | h_31 hop =>
    exact .reserved _ (by omega) hd rfl (reservedWord_of_opcode hop)
  case h_32 =>
    have hlt := (opcodeField w).isLt
    have hop : (opcodeField w).toNat = 0x1F := by
      simp only [imp_false] at *
      omega
    exact .reserved _ (by omega) hd rfl (reservedWord_of_opcode hop)

/-! ### Encoding what a word decodes to (O2) -/

/-- A format-N word that decodes has no reserved bit set (rules R91, R101 item 2). -/
theorem lowField_of_decodeN {w : Word} {i j : Instr} (h : decodeN w j = .ok i) : lowField w = 0 := by
  by_contra hlow
  rw [decodeN, if_neg hlow] at h
  cases h

/-- A format-B word that decodes is the word of the BR of its fields (rule R92). -/
theorem encode_of_decodeB {w : Word} {i : Instr} (hop : opcodeField w = 0x01#5) (h : decodeB w = .ok i) : encode i = w := by
  unfold decodeB at h
  split at h
  next c hc =>
    cases h
    rw [encode, Cond.code_of_ofCode hc, ← hop, formatB_fields]
  next => cases h

/-- A format-K word that decodes is the word of the BLINK of its fields (rule R93). -/
theorem encode_of_decodeK {w : Word} {i : Instr} (hop : opcodeField w = 0x0D#5) (h : decodeK w = .ok i) : encode i = w := by
  unfold decodeK at h
  split at h
  next => cases h
  next p hp =>
    split at h
    · cases h
    · cases h
      rw [encode, PatternClass.code_of_ofCode hp, ← hop, formatK_fields]

/-- A format-D word that decodes is the word of the DELAY of its selector (rule R94). -/
theorem encode_of_decodeD {w : Word} {i : Instr} (hop : opcodeField w = 0x0F#5) (h : decodeD w = .ok i) : encode i = w := by
  unfold decodeD at h
  split at h
  next hbits =>
    split at h
    next d hd =>
      cases h
      rw [encode, DelaySel.code_of_ofCode hd, ← hop, ← show delayReservedField w = 0#9 from hbits, formatD_fields]
    next => cases h
  next => cases h

/-- A word is the word of the instruction that it decodes to, in every format. -/
theorem encode_of_decode {w : Word} {i : Instr} (h : decode w = .ok i) : encode i = w := by
  cases decode_format w with
  | formatN j _ hd _ hw =>
    rw [hd] at h
    rw [eq_of_decodeN h, hw (lowField_of_decodeN h)]
  | formatB hop hd => exact encode_of_decodeB (BitVec.eq_of_toNat_eq hop) (hd ▸ h)
  | formatK hop hd => exact encode_of_decodeK (BitVec.eq_of_toNat_eq hop) (hd ▸ h)
  | formatD hop hd => exact encode_of_decodeD (BitVec.eq_of_toNat_eq hop) (hd ▸ h)
  | reserved j _ hd _ hw => rw [← hw, Except.ok.inj (hd.symm.trans h)]

/-- Settles O2: the decoder excludes the one ill-formed term, and each format loses no bit. -/
theorem encodeDecodeAgree : Obligations.EncodeDecodeAgree :=
  fun _ _ h => ⟨wellFormed_of_decode h, encode_of_decode h⟩

/-! ### Which words of a format are illegal -/

/-- A word that decodes is illegal exactly when it decodes to a reserved row (rule R101 item 1). -/
theorem illegalWord_of_ok {w : Word} {i : Instr} (h : decode w = .ok i) : illegalWord w = i.reservedRow := by
  rw [illegalWord, h]

/-- A word that decodes to a row with a meaning is not illegal. -/
theorem not_illegalWord_of_ok {w : Word} {i : Instr} (h : decode w = .ok i) (hrow : i.reservedRow = false) :
    ¬ illegalWord w = true := by
  rw [illegalWord_of_ok h, hrow]
  exact Bool.false_ne_true

/-- A rejected word is illegal (rule R101 items 2 to 5). -/
theorem illegalWord_of_error {w : Word} {e : Rejection} (h : decode w = .error e) : illegalWord w = true := by
  rw [illegalWord, h]

/-- A format-N word is illegal exactly when a low bit is set (rule R101 item 2). -/
theorem illegalWord_formatN_iff {w : Word} {j : Instr} (hd : decode w = decodeN w j) (hrow : j.reservedRow = false) :
    illegalWord w = true ↔ lowField w ≠ 0 := by
  by_cases hlow : lowField w = 0
  · exact iff_of_false (not_illegalWord_of_ok (hd.trans (if_pos hlow)) hrow) (not_not_intro hlow)
  · exact iff_of_true (illegalWord_of_error (hd.trans (if_neg hlow))) hlow

/-- A format-B word is illegal exactly when its code is no condition (rule R101 item 3). -/
theorem illegalWord_formatB_iff {w : Word} (hd : decode w = decodeB w) :
    illegalWord w = true ↔ Cond.ofCode (conditionField w) = none := by
  unfold decodeB at hd
  split at hd
  next c hc => exact iff_of_false (not_illegalWord_of_ok hd rfl) (by simp [hc])
  next hc => exact iff_of_true (illegalWord_of_error hd) hc

/-- A format-K word is illegal exactly when its code is no pattern class, or S = 1 and K is not zero (rule R101 item 4). -/
theorem illegalWord_formatK_iff {w : Word} (hd : decode w = decodeK w) :
    illegalWord w = true ↔
      PatternClass.ofCode (patternField w) = none ∨ (sourceField w && countField w != 0) = true := by
  unfold decodeK at hd
  split at hd
  next hp => exact iff_of_true (illegalWord_of_error hd) (.inl hp)
  next p hp =>
    split at hd
    next hsk => exact iff_of_true (illegalWord_of_error hd) (.inr hsk)
    next hsk => exact iff_of_false (not_illegalWord_of_ok hd rfl) (not_or_intro (by simp [hp]) hsk)

/-- A format-D word is illegal exactly when a reserved bit is set or its code is no delay selector (rule R101 item 5). -/
theorem illegalWord_formatD_iff {w : Word} (hd : decode w = decodeD w) :
    illegalWord w = true ↔ delayReservedField w ≠ 0 ∨ DelaySel.ofCode (delayField w) = none := by
  unfold decodeD at hd
  split at hd
  next hbits =>
    split at hd
    next d hs => exact iff_of_false (not_illegalWord_of_ok hd rfl) (not_or_intro (not_not_intro hbits) (by simp [hs]))
    next hs => exact iff_of_true (illegalWord_of_error hd) (.inr hs)
  next hbits => exact iff_of_true (illegalWord_of_error hd) (.inl hbits)

/-! ### The illegal words by number -/

/-- The opcode selects the format, and with it the item that can apply (rule R101). -/
theorem illegalWord_iff_items (w : Word) :
    illegalWord w = true ↔
      (w.toNat ≥ 0xA800 ∨
       (w.toNat / 2048 ≠ 1 ∧ w.toNat / 2048 ≠ 13 ∧ w.toNat / 2048 ≠ 15 ∧ w.toNat % 2048 ≠ 0) ∨
       (w.toNat / 2048 = 1 ∧ 10 ≤ w.toNat / 64 % 16) ∨
       (w.toNat / 2048 = 13 ∧ (5 ≤ w.toNat / 256 % 8 ∨ (w.toNat / 128 % 2 = 1 ∧ w.toNat % 128 ≠ 0))) ∨
       (w.toNat / 2048 = 15 ∧ (w.toNat / 4 % 512 ≠ 0 ∨ 2 ≤ w.toNat % 4))) := by
  cases decode_format w with
  | formatN j hop hd hrow =>
    rw [opcodeField_toNat] at hop
    rw [illegalWord_formatN_iff hd hrow, BitVec.ofNat_eq_ofNat, BitVec.toNat_ne, lowField_toNat, BitVec.toNat_zero]
    omega
  | formatB hop hd =>
    rw [opcodeField_toNat] at hop
    rw [illegalWord_formatB_iff hd, Cond.ofCode_eq_none_iff, conditionField_toNat]
    omega
  | formatK hop hd =>
    rw [opcodeField_toNat] at hop
    rw [illegalWord_formatK_iff hd, PatternClass.ofCode_eq_none_iff, patternField_toNat, sourceField_eq, Bool.and_eq_true,
      decide_eq_true_eq, bne_iff_ne, BitVec.ofNat_eq_ofNat, BitVec.toNat_ne, countField_toNat, BitVec.toNat_zero]
    omega
  | formatD hop hd =>
    rw [opcodeField_toNat] at hop
    rw [illegalWord_formatD_iff hd, DelaySel.ofCode_eq_none_iff, BitVec.ofNat_eq_ofNat, BitVec.toNat_ne,
      delayReservedField_toNat, BitVec.toNat_zero, delayField_toNat]
    omega
  | reserved i hop hd hrow =>
    rw [opcodeField_toNat] at hop
    exact iff_of_true ((illegalWord_of_ok hd).trans hrow) (.inl (by omega))

/-- A word that is not illegal is one legal instruction (rule R101). -/
theorem not_illegalWord_iff_legal (w : Word) :
    illegalWord w = false ↔ ∃ i : Instr, i.legal = true ∧ decode w = .ok i := by
  constructor
  · intro h
    cases hd : decode w with
    | error e => rw [illegalWord_of_error hd] at h; cases h
    | ok i =>
      rw [illegalWord_of_ok hd] at h
      exact ⟨i, by rw [Instr.legal, wellFormed_of_decode hd, h]; rfl, rfl⟩
  · rintro ⟨i, hl, hd⟩
    rw [Instr.legal, Bool.and_eq_true, Bool.not_eq_true'] at hl
    obtain ⟨-, hrow⟩ := hl
    rw [illegalWord_of_ok hd, hrow]

/-! ### The fault of an illegal word (O42) -/

/-- A reserved row raises the illegal-word fault for its own word (rule R289). -/
theorem exec_of_reservedRow {i : Instr} (h : i.reservedRow = true) (s : State) :
    exec i s = .next (s.lockedBy (encode i)) := by
  cases i with
  | reserved15 | reserved16 | reserved17 | reserved18 | reserved19 | reserved1A | reserved1B | reserved1C | reserved1D
  | reserved1E | reserved1F => rfl
  | _ => cases h

/-- Settles O42: each row raises the fault for its own word, the opcode moved up plus the low bits. -/
theorem reservedRowsRaiseFault : Obligations.ReservedRowsRaiseFault := by
  intro s low
  have word (op : BitVec 5) : reservedWord op low = op ++ 0#11 + low.setWidth 16 := append_eq_add op low
  refine ⟨?_, ?_, ?_, ?_, ?_, ?_, ?_, ?_, ?_, ?_, ?_⟩
  all_goals
    rw [exec_of_reservedRow rfl s, encode, word]
    rfl

/-! ### The illegal words (O3) -/

/-- A step whose next word is illegal takes the fault, whether the decoder rejects the word or reads a reserved row. -/
theorem step_of_illegalWord {s : State} {w : Word} (hw : s.nextWord = some w) (hill : illegalWord w = true) :
    step s = .next (s.turnTaken.lockedBy w) := by
  obtain ⟨hturn, hact⟩ := (s.nextWord_eq_some_iff w).1 hw
  rw [step_of_useqTurn hturn, useqStep, State.useqAction_turnTaken, hact]
  cases hd : decode w with
  | error e => simp only [hd]; rfl
  | ok i =>
    have hrow : i.reservedRow = true := (illegalWord_of_ok hd).symm.trans hill
    simp only [hd]
    rw [exec_of_reservedRow hrow, encode_of_decode hd]

/-- A BLINK with an immediate count is 0x6800, its class in the upper byte and its count (rule R93). -/
theorem encode_blink_immediate (p : PatternClass) (k : BitVec 7) :
    encode (.blink p false k) = 0x6800 + 0x100 * p.code.setWidth 16 + k.setWidth 16 := by
  rw [encode, append_eq_add]
  cases p <;> rfl

/-- A BLINK with an immediate count is a legal word, whatever the count. -/
theorem not_illegalWord_blink_immediate (p : PatternClass) (k : BitVec 7) :
    illegalWord (0x6800 + 0x100 * p.code.setWidth 16 + k.setWidth 16) = false := by
  rw [← encode_blink_immediate, illegalWord_of_ok (decodeEncodeAgree (.blink p false k) rfl)]
  rfl

/-- The hardware's ROM holds no illegal word: its four BLINKs of a configured count are legal whatever the count, and the
other words do not depend on the configuration (rule R250). -/
theorem not_illegalWord_romWord (c : Config) (a : RomAddr) : illegalWord (romWord c a.toNat) = false := by
  have plain : ∀ a : RomAddr, illegalWord (romWord plainConfig a.toNat) = false := by decide
  rcases romWord_cases c a with ⟨-, rfl | rfl | rfl | rfl⟩ | h
  · exact not_illegalWord_blink_immediate .boot c.nBoot
  · exact not_illegalWord_blink_immediate .pre c.nPre
  · exact not_illegalWord_blink_immediate .pre c.nPre
  · exact not_illegalWord_blink_immediate .pre c.nPre
  · rw [h]
    exact plain a

/-- Settles O3: one lemma for each sentence of rule R101. -/
theorem illegalWordsAreTheFiveItems : Obligations.IllegalWordsAreTheFiveItems :=
  ⟨illegalWord_iff_items, not_illegalWord_iff_legal, fun _ _ => step_of_illegalWord, not_illegalWord_romWord⟩

/-! ### The hints (O9) -/

/-- The BR that is never taken is 0x0C00 and its target (rules R92, R102). -/
theorem encode_br_never (t : RomAddr) : encode (.br true .alw t) = 0x0C00 + t.setWidth 16 := by
  rw [encode, append_eq_add]
  rfl

/-- A BLINK of no count emits nothing and drives nothing (rules R102, R156). -/
theorem exec_blink_zero (p : PatternClass) (s : State) : exec (.blink p false 0) s = .next { s with pc := s.pc + 1 } := by
  have hcount : s.blinkTimes p (s.blinkCount false 0) = s := by
    rw [State.blinkTimes_eq]
    exact if_pos rfl
  change Host.Outcome.next (s.blinkTimes p (s.blinkCount false 0)).advance = _
  rw [hcount]
  rfl

/-- Settles O9: NOP advances, ALW inverted is never taken, and a count of zero blinks nothing. -/
theorem hintsOnlyAdvance : Obligations.HintsOnlyAdvance := by
  refine ⟨⟨hasWord_of_encode rfl rfl, fun s => rfl⟩, fun t => ⟨?_, fun s => rfl⟩, fun p => ⟨?_, exec_blink_zero p⟩⟩
  · exact hasWord_of_encode rfl (encode_br_never t)
  · exact hasWord_of_encode rfl ((encode_blink_immediate p 0).trans (by simp))

end Sys2Proof.Machine
end

section
/-! The two statements about the light-sensor capture (spec 41): CAL sets THR from one measurement (rule R125), SENSE compares one
with THR (rules R129, R130). Both rest on what a measurement leaves behind (rules R121, R123) and on the frame of memory. -/

namespace Sys2Proof.Machine

/-! ### Memory left alone -/

/-- Two states with one store, write count, list of words and configuration have the same memory. -/
theorem sameMemory_of_eq {s t : State} (hn : t.nvm = s.nvm) (hw : t.nvmWrites = s.nvmWrites) (hr : t.rom = s.rom)
    (hc : t.cfg = s.cfg) : SameMemory s t :=
  ⟨hn, hw, sameRom_of_eq hr hc⟩

/-! ### One measurement -/

/-- A measurement counts the drawn discharge time, up to the bound (rule R122). -/
theorem State.measure_of_draw {s : State} {T : Nat} (h : s.dischargeDraw = T) (bound : Nat) :
    s.measure bound = min T bound := by
  rw [State.measure, h]

/-- A measurement uses its draw and drives the sense line low, whatever it counted, and PC moves on (rules R121, R123). -/
theorem State.advance_afterMeasure (s : State) (r : Nat) :
    (s.afterMeasure r).advance =
      { s with
        pins := { s.pins with senseOe := true, senseO := false }
        env := s.env.dischargeUsed
        pc := s.pc + 1 } := by
  rw [s.afterMeasure_eq, s.afterDischarge_env, State.advance]

/-! ### CAL (O18) -/

/-- A sum that saturates at SENSE_MAX fits THR, so nothing of it is cut off (rules R122, R125). -/
theorem toNat_ofNat_satAdd_senseMax (a b : Nat) :
    (BitVec.ofNat 32 (satAdd a b senseMax)).toNat = min (a + b) senseMax := by
  have hlt : min (a + b) senseMax < 2 ^ 32 :=
    (Nat.min_le_right _ _).trans_lt (Nat.sub_lt (Nat.two_pow_pos 32) Nat.one_pos)
  rw [satAdd_eq_min, BitVec.toNat_ofNat, Nat.mod_eq_of_lt hlt]

/-- CAL puts the measured count plus the margin into THR (rule R125). -/
theorem exec_cal (s : State) :
    exec .cal s = .next { s with
      thr := BitVec.ofNat 32 (satAdd (s.measure senseMax) s.cfg.calMargin senseMax)
      pins := { s.pins with senseOe := true, senseO := false }
      env := s.env.dischargeUsed
      pc := s.pc + 1 } := by
  rw [exec, execCal, s.advance_afterMeasure]

/-- Settles O18: the count is bounded by SENSE_MAX, and so is its sum with the margin, which THR then holds exactly. -/
theorem calSetsThreshold : Obligations.CalSetsThreshold := by
  refine ⟨hasWord_of_encode rfl rfl, fun s T hT => ⟨_, exec_cal s, ?_, rfl, sameMemory_of_eq rfl rfl rfl rfl⟩⟩
  rw [toNat_ofNat_satAdd_senseMax, s.measure_of_draw hT, senseMax]

/-! ### SENSE (O19) -/

/-- SENSE puts the comparison of the measured count with THR into LON (rule R129). -/
theorem exec_sense (s : State) :
    exec .sense s = .next { s with
      lon := decide (s.measure s.thr.toNat < s.thr.toNat)
      pins := { s.pins with senseOe := true, senseO := false }
      env := s.env.dischargeUsed
      pc := s.pc + 1 } := by
  rw [exec, execSense, s.advance_afterMeasure]

/-- Settles O19: the count is below its own bound exactly when the discharge time is, so bounding it at THR changes no result. -/
theorem senseComparesWithThreshold : Obligations.SenseComparesWithThreshold := by
  refine ⟨hasWord_of_encode rfl rfl, fun s T hT => ?_⟩
  have hlon : decide (s.measure s.thr.toNat < s.thr.toNat) = true ↔ min T s.thr.toNat < s.thr.toNat := by
    rw [decide_eq_true_iff, s.measure_of_draw hT]
  have hbound : min T s.thr.toNat < s.thr.toNat ↔ T < s.thr.toNat := by
    omega
  exact ⟨_, exec_sense s, hlon, hlon.trans hbound, rfl, sameMemory_of_eq rfl rfl rfl rfl⟩

end Sys2Proof.Machine
end

section
/-! The statements about the persistent mode store (spec 42): NVMLD takes MODE from the byte it reads (rule R141), NVMST with
IE = 1 or past the endurance leaves any byte (rules R144, R146), and power loss cuts the instruction at hand and resets the block
(rules R145, R161, R299). -/

namespace Sys2Proof.Machine

/-! ### The instruction at hand (rule R226) -/

/-- An instruction is at hand exactly when no guard of rule R226 holds and the word at PC decodes to it. -/
theorem State.instrAtHand_eq_some_iff_decode (s : State) (i : Instr) :
    s.instrAtHand = some i ↔ s.locked = false ∧ (s.ie && (s.tpend || s.ppend)) = false ∧ s.sleeping = false ∧
      decode (s.romFetch s.pc) = .ok i := by
  rw [s.instrAtHand_eq_some_iff]
  constructor
  · rintro ⟨w, hact, hdec⟩
    obtain ⟨hlocked, hservice, hawake, rfl⟩ := (s.useqAction_execute_iff w).1 hact
    exact ⟨hlocked, hservice, hawake, hdec⟩
  · rintro ⟨hlocked, hservice, hawake, hdec⟩
    exact ⟨_, (s.useqAction_execute_iff _).2 ⟨hlocked, hservice, hawake, rfl⟩, hdec⟩

/-- No instruction is at hand exactly when a guard of rule R226 holds or the decoder rejects the word at PC. -/
theorem State.instrAtHand_eq_none_iff (s : State) :
    s.instrAtHand = none ↔ s.locked = true ∨ (s.ie && (s.tpend || s.ppend)) = true ∨ s.sleeping = true ∨
      ∃ e, decode (s.romFetch s.pc) = .error e := by
  rw [Option.eq_none_iff_forall_ne_some]
  simp only [ne_eq, s.instrAtHand_eq_some_iff_decode, not_and]
  cases s.locked
  case true => simp
  cases s.ie && (s.tpend || s.ppend)
  case true => simp
  cases s.sleeping
  case true => simp
  cases decode (s.romFetch s.pc) <;> simp

/-! ### What a cut instruction leaves (rules R145, R161, R299) -/

/-- A cut write uses the one byte draw of the byte it leaves (rule R145). -/
@[simp] theorem State.cutWrite_env (s : State) : s.cutWrite.env = s.env.bytesUsed :=
  (s.emit (.nvmWrite s.mode)).afterByte_env

/-- A cut BLINK of no count records nothing, one of a count its event, and neither uses a draw (rules R156, R299). -/
theorem State.cut_blink (s : State) (p : PatternClass) (b : Bool) (k : BitVec 7) :
    (s.cut (.blink p b k)).env = s.env ∧
      (s.cut (.blink p b k)).trace =
        s.trace ++ (if s.blinkCount b k = 0 then [] else [.blink p (s.blinkCount b k)]) := by
  rw [State.cut, State.blinkTimes_eq]
  split <;> simp

/-- An instruction that is not timed, and a DELAY, is cut before it does anything (rules R226, R227). -/
theorem State.cut_of_untimed (s : State) {i : Instr} (hnvmst : i ≠ .nvmst) (hpulse : i ≠ .pulse)
    (hblink : ∀ p b k, i ≠ .blink p b k) (hcal : i ≠ .cal) (hsense : i ≠ .sense) : s.cut i = s := by
  cases i with
  | nvmst => exact absurd rfl hnvmst
  | pulse => exact absurd rfl hpulse
  | blink p b k => exact absurd rfl (hblink p b k)
  | cal => exact absurd rfl hcal
  | sense => exact absurd rfl hsense
  | _ => rfl

/-! ### Power loss (O25) -/

/-- Power loss keeps the configuration, whatever it cuts (rule R320). -/
@[simp] theorem State.powerLoss_cfg (s : State) : s.powerLoss.cfg = s.cfg := by
  rw [State.powerLoss_eq]
  cases s.instrAtHand <;> simp

/-- Power loss keeps the control ROM, whatever it cuts (rules R71, R320). -/
@[simp] theorem State.powerLoss_rom (s : State) : s.powerLoss.rom = s.rom := by
  rw [State.powerLoss_eq]
  cases s.instrAtHand <;> simp

/-- Power loss with an instruction at hand is a reset of what that instruction has done. -/
theorem State.powerLoss_of_atHand {s : State} {i : Instr} (h : s.instrAtHand = some i) :
    s.powerLoss = (s.cut i).powerOnReset := by
  rw [State.powerLoss_eq, h]
  rfl

/-- Power loss with no instruction at hand is a reset and nothing more. -/
theorem State.powerLoss_of_none {s : State} (h : s.instrAtHand = none) : s.powerLoss = s.powerOnReset := by
  rw [State.powerLoss_eq, h]
  rfl

/-- The instruction at hand does not depend on who moves later. -/
@[simp] theorem State.instrAtHand_withTurns (s : State) (ts : List Turn) :
    (s.withTurns ts).instrAtHand = s.instrAtHand := rfl

/-- The count of a BLINK does not depend on who moves later. -/
@[simp] theorem State.blinkCount_withTurns (s : State) (ts : List Turn) (b : Bool) (k : BitVec 7) :
    (s.withTurns ts).blinkCount b k = s.blinkCount b k := rfl

/-- On the turn of a power loss, the step is that power loss (rule R19). -/
theorem step_of_powerLoss {s : State} {ts : List Turn} (h : s.env.turns = .powerLoss :: ts) :
    step s = .next (s.withTurns ts).powerLoss := by
  rw [step, h]

/-- Settles O25: the step is a reset of what the instruction at hand, if there is one, has done when it is cut. -/
theorem powerLossCutsWrite : Obligations.PowerLossCutsWrite := by
  intro s ts hturns
  refine ⟨_, step_of_powerLoss hturns, ?_, by simp, sameRom_of_eq (by simp) (by simp), ?_, ?_,
    s.instrAtHand_eq_none_iff⟩
  · rw [State.powerLoss_eq]
    exact State.powerOnReset_hasResetValues _
  · intro i hlocked hservice hawake hdec
    have hi : (s.withTurns ts).instrAtHand = some i :=
      (s.instrAtHand_eq_some_iff_decode i).2 ⟨hlocked, hservice, hawake, hdec⟩
    rw [State.powerLoss_of_atHand hi]
    refine ⟨?nvmst, ?store, ?pulse, ?blink, ?sense, ?untimed⟩
    case nvmst =>
      rintro rfl
      exact ⟨rfl, rfl, by simp [State.cut], by simp [State.cut, Environment.bytesUsed]⟩
    case store => exact (s.withTurns ts).cut_store
    case pulse =>
      rintro rfl
      simp [State.cut]
    case blink =>
      rintro p b k rfl
      obtain ⟨henv, htrace⟩ := (s.withTurns ts).cut_blink p b k
      refine ⟨henv, ?_⟩
      rw [State.powerOnReset_trace, htrace, s.blinkCount_withTurns]
      split <;> simp
    case sense =>
      rintro (rfl | rfl) <;> simp [State.cut, Environment.dischargeUsed]
    case untimed =>
      intro hnvmst hpulse hblink hcal hsense
      rw [State.cut_of_untimed _ hnvmst hpulse hblink hcal hsense]
      exact ⟨rfl, rfl⟩
  · intro hnone
    rw [State.powerLoss_of_none (s.instrAtHand_withTurns ts ▸ hnone)]
    exact ⟨rfl, rfl, rfl, rfl⟩

/-! ### NVMLD (O21) -/

/-- NVMLD takes MODE from the byte it reads and uses the draw of that read (rules R75, R141). -/
theorem exec_nvmld (s : State) :
    exec .nvmld s = .next { s with
      mode := modeOfByte s.cfg s.nvmReadByte
      env := s.envAfterNvmRead
      pc := s.pc + 1 } := by
  rw [exec, execNvmld, s.afterNvmRead_eq, s.afterNvmRead_env]
  rfl

/-- A read within the endurance returns the stored byte, one past it the drawn byte (rules R75, R146). -/
theorem State.nvmReadByte_eq (s : State) :
    s.nvmReadByte = if s.nvmWrites ≤ s.cfg.nvmEndurance then s.nvm else s.byteDraw := by
  unfold State.nvmReadByte
  by_cases h : s.nvmWrites ≤ s.cfg.nvmEndurance
  · rw [State.nvmWorn_of_le h, if_pos h, if_neg Bool.false_ne_true]
  · rw [State.nvmWorn_of_lt (Nat.lt_of_not_le h), if_neg h, if_pos rfl]

/-- An erased store gives DEFAULT_MODE (rule R141). -/
theorem toNat_modeOfByte_erased (c : Config) : (modeOfByte c 0xFF).toNat = c.defaultMode :=
  toNat_defaultMode c

/-- A byte outside the mode range gives DEFAULT_MODE (rule R141). -/
theorem toNat_modeOfByte_of_outside (c : Config) {b : Byte} (h : b.toNat < c.startMode ∨ c.modeCount ≤ b.toNat) :
    (modeOfByte c b).toNat = c.defaultMode := by
  have hout : (decide (b.toNat < c.startMode) || decide (b.toNat ≥ c.modeCount)) = true := by
    simpa using h
  rw [modeOfByte, if_pos hout, ite_self]
  exact toNat_defaultMode c

/-- A byte of the mode range is kept; MODE_COUNT is at most 255, so ERASED is none of them (rules R9, R13, R141). -/
theorem modeOfByte_of_inside (c : Config) {b : Byte} (hlo : c.startMode ≤ b.toNat) (hhi : b.toNat < c.modeCount) :
    modeOfByte c b = b := by
  obtain ⟨-, hmax, -⟩ := config_constraints c
  have hprogrammed : b ≠ erased := by
    rintro rfl
    exact absurd hhi (Nat.not_lt.2 hmax)
  rw [modeOfByte, if_neg hprogrammed, if_neg (by simp [hlo, hhi])]

/-- Settles O21: NVMLD writes `modeOfByte` of the byte that the read returns. -/
theorem nvmldLoadsMode : Obligations.NvmldLoadsMode := by
  refine ⟨hasWord_of_encode rfl rfl, fun s b hstored hdrawn => ?_⟩
  have hread : s.nvmReadByte = b := by
    rw [s.nvmReadByte_eq]
    split
    next h => exact (hstored h).symm
    next h => exact (hdrawn (Nat.lt_of_not_le h)).symm
  refine ⟨_, exec_nvmld s, ?_, ?_, ?_, rfl, sameMemory_of_eq rfl rfl rfl rfl⟩
  all_goals rw [hread]
  · rintro rfl
    exact toNat_modeOfByte_erased s.cfg
  · exact toNat_modeOfByte_of_outside s.cfg
  · exact modeOfByte_of_inside s.cfg

/-! ### NVMST that leaves any byte (O23, O24) -/

/-- NVMST records its event, writes the store once and moves PC on (rule R143). -/
theorem exec_nvmst (s : State) :
    exec .nvmst s = .next { s with
      nvm := s.nvmStoredByte s.mode
      nvmWrites := s.nvmWrites + 1
      trace := s.trace ++ [.nvmWrite s.mode]
      env := if s.ie || s.nvmWorn then s.env.bytesUsed else s.env
      pc := s.pc + 1 } := by
  rw [exec, execNvmst, State.nvmStore_eq, State.nvmStore_env]
  rfl

/-- With IE = 1 or past the endurance the byte that NVMST leaves is drawn (rules R144, R146). -/
theorem exec_nvmst_of_drawn {s : State} (h : (s.ie || s.nvmWorn) = true) :
    exec .nvmst s = .next { s with
      nvm := s.byteDraw
      nvmWrites := s.nvmWrites + 1
      trace := s.trace ++ [.nvmWrite s.mode]
      env := s.env.bytesUsed
      pc := s.pc + 1 } := by
  rw [exec_nvmst, State.nvmStoredByte, if_pos h, if_pos h]

/-- Settles O23: with IE = 1 the byte is drawn, and a draw can be any byte. -/
theorem nvmstWithInterruptsOnLeavesAnyByte : Obligations.NvmstWithInterruptsOnLeavesAnyByte := by
  have drawn {s : State} (hie : s.ie = true) : (s.ie || s.nvmWorn) = true := by rw [hie, Bool.true_or]
  constructor
  · intro s b hie
    obtain ⟨e, -, -, -, hbyte⟩ := everyDrawIsPossible s 0 (false, false) b
    exact ⟨e, _, exec_nvmst_of_drawn (drawn hie), hbyte⟩
  · intro s hie
    exact ⟨_, exec_nvmst_of_drawn (drawn hie), rfl, rfl, sameRom_of_eq rfl rfl⟩

/-- Settles O24: past the endurance the byte is drawn, whatever IE is. -/
theorem wornStoreKeepsNothing : Obligations.WornStoreKeepsNothing := by
  intro s hworn
  have drawn : (s.ie || s.nvmWorn) = true := by rw [State.nvmWorn_of_lt hworn, Bool.or_true]
  exact ⟨_, exec_nvmst_of_drawn drawn, rfl, rfl, sameRom_of_eq rfl rfl⟩

end Sys2Proof.Machine
end

section
/-! The statements about the pulse sequencer (spec 43): DELAY only waits (rule R163), BLINK emits its count or is illegal (rules
R156, R159), PULSE emits one pulse (rules R161, R162), and FIRE is one pulse after at most one blink (rules R105, R166, R167).
All but DELAY's rest on what one instruction answers (`exec_blink`, `exec_pulse`); FIRE chains them with `execAll_cons`. -/

namespace Sys2Proof.Machine

/-! ### DELAY (O10) -/

/-- DELAY changes nothing but PC, whichever wait it selects (rule R163). -/
theorem exec_delay (d : DelaySel) (s : State) : exec (.delay d) s = .next { s with pc := s.pc + 1 } := rfl

/-- Settles O10: both selectors answer the same state, and each names its own duration. -/
theorem delayOnlyAdvances : Obligations.DelayOnlyAdvances := by
  refine ⟨hasWord_of_encode rfl rfl, hasWord_of_encode rfl rfl, fun d s => ⟨exec_delay d s, ?_⟩⟩
  cases d with
  | debounce => rfl
  | settle => rfl

/-! ### BLINK with a legal pair of counts (O26, O27) -/

/-- A BLINK whose S and K fields go together emits its count, or nothing when the count is 0, and moves PC on (rule R156). -/
theorem exec_blink {p : PatternClass} {src : Bool} {k : BitVec 7} (hwf : (Instr.blink p src k).wellFormed = true)
    (s : State) :
    exec (.blink p src k) s = .next (if s.blinkCount src k = 0 then { s with pc := s.pc + 1 } else { s with
      trace := s.trace ++ [.blink p (s.blinkCount src k)]
      pins := { s.pins with ind := false }
      pc := s.pc + 1 }) := by
  have hlegal : (src && k != 0) = false := by
    simpa only [Instr.wellFormed, Bool.not_eq_true'] using hwf
  rw [exec, execBlink, hlegal, if_neg Bool.false_ne_true, State.blinkTimes_eq]
  split <;> rfl

/-- Settles O26: with S = 0 the count is K, which is not 0 here. -/
theorem blinkImmediateEmits : Obligations.BlinkImmediateEmits := by
  intro s p k hk
  have hcount : s.blinkCount false k = k.toNat := rfl
  rw [exec_blink rfl, hcount, if_neg (Nat.ne_of_gt hk)]

/-- The mode position counts from 1 at START_MODE (rule R159). -/
theorem modePosition_of_le {c : Config} {m : Byte} (h : c.startMode ≤ m.toNat) :
    modePosition c m = m.toNat - c.startMode + 1 :=
  if_pos h

/-- Settles O27: with S = 1 the count is the mode position. -/
theorem blinkModePositionEmits : Obligations.BlinkModePositionEmits := by
  intro s p
  refine ⟨modePosition s.cfg s.mode, modePosition_of_le, ?_, exec_blink rfl s⟩
  rintro ⟨hlo, hhi⟩
  rw [modePosition_of_le hlo]
  omega

/-! ### BLINK with both counts (O28) -/

/-- The word of a BLINK is read in format K, whatever its fields (rule R93). -/
theorem decode_encode_blink_format (p : PatternClass) (src : Bool) (k : BitVec 7) :
    decode (encode (.blink p src k)) = decodeK (encode (.blink p src k)) := by
  rw [decode, opcodeField_blink]
  rfl

/-- The term with S = 1 and K not zero means the illegal-word fault for its own word (rules R156, R289). -/
theorem exec_blink_both {p : PatternClass} {k : BitVec 7} (hk : k ≠ 0) (s : State) :
    exec (.blink p true k) s = .next (s.lockedBy (encode (.blink p true k))) := by
  have hboth : (true && k != 0) = true := by simpa using hk
  rw [exec, execBlink, if_pos hboth]
  rfl

/-- Settles O28: the word keeps both fields, which is item 4 of rule R101, and the term raises the fault for that word. -/
theorem blinkWithBothCountsIsIllegal : Obligations.BlinkWithBothCountsIsIllegal := by
  intro s p k hk
  refine ⟨(illegalWord_formatK_iff (decode_encode_blink_format p true k)).2 (.inr ?_), exec_blink_both hk s⟩
  rw [sourceField_blink, countField_blink]
  simpa using hk

/-! ### PULSE (O29) -/

/-- PULSE records its event and leaves the actuator off, whatever IE is (rules R161, R162). -/
theorem exec_pulse (s : State) :
    exec .pulse s = .next { s with
      trace := s.trace ++ [.pulse]
      pins := { s.pins with act := false }
      pc := s.pc + 1 } := by
  rw [exec, execPulse, endPins_pulsePhases]
  rfl

/-- Settles O29: `exec_pulse` speaks of every state, so of IE at 0 and at 1 alike. -/
theorem pulseEmits : Obligations.PulseEmits :=
  ⟨hasWord_of_encode rfl rfl, exec_pulse⟩

/-! ### FIRE (O30) -/

/-- DI clears IE and moves PC on (rule R233). -/
theorem exec_di (s : State) : exec .di s = .next { s with ie := false, pc := s.pc + 1 } := rfl

/-- EI sets IE and moves PC on (rule R232). -/
theorem exec_ei (s : State) : exec .ei s = .next { s with ie := true, pc := s.pc + 1 } := rfl

/-- A sequence whose first instruction answers a next state goes on from there. -/
theorem execAll_cons {i : Instr} {s t : State} (h : exec i s = .next t) (is : List Instr) :
    execAll (i :: is) s = execAll is t := by
  rw [execAll, h]

/-- The words of FIRE (rules R105, R166). -/
theorem asmFire_words (c : Config) :
    (asmFire c).map encode = [0x6B00 + c.nPre.setWidth 16, 0x8800, 0x7000, 0x8000] := by
  have hblink : encode (.blink .pre false c.nPre) = 0x6B00 + c.nPre.setWidth 16 := encode_blink_immediate .pre c.nPre
  rw [asmFire, List.map_cons, hblink]
  rfl

/-- After its BLINK, FIRE is one pulse between DI and EI (rules R166, R167). -/
theorem execAll_asmFire {s t : State} (hblink : exec (.blink .pre false s.cfg.nPre) s = .next t) :
    execAll (asmFire s.cfg) s = .next { t with
      ie := true
      trace := t.trace ++ [.pulse]
      pins := { t.pins with act := false }
      pc := t.pc + 3 } := by
  have hpc : t.pc + 1 + 1 + 1 = t.pc + 3 := by
    rw [BitVec.add_assoc, BitVec.add_assoc]
    rfl
  rw [asmFire, execAll_cons hblink, execAll_cons (exec_di _), execAll_cons (exec_pulse _), execAll_cons (exec_ei _),
    execAll, ← hpc]

/-- Settles O30: the BLINK of FIRE emits nothing or its one event, according to N_PRE, and the other three words follow. -/
theorem fireEmitsOnePulse : Obligations.FireEmitsOnePulse := by
  intro s
  have hpc : s.pc + 1 + 3 = s.pc + 4 := BitVec.add_assoc s.pc 1 3
  refine ⟨asmFire_words s.cfg, ?_⟩
  by_cases hpre : s.cfg.nPre = 0
  · have hblink : exec (.blink .pre false s.cfg.nPre) s = .next { s with pc := s.pc + 1 } := by
      rw [hpre]
      exact exec_blink_zero .pre s
    exact ⟨_, execAll_asmFire hblink, by rw [← hpc], rfl, fun _ => rfl, absurd hpre⟩
  · have hcount : 1 ≤ s.cfg.nPre.toNat :=
      Nat.one_le_iff_ne_zero.2 fun hzero => hpre (BitVec.eq_of_toNat_eq hzero)
    refine ⟨_, execAll_asmFire (blinkImmediateEmits s .pre s.cfg.nPre hcount), by rw [← hpc], rfl,
      fun hzero => absurd hzero hpre, fun _ => ?_⟩
    exact List.append_assoc _ _ _

end Sys2Proof.Machine
end

section
/-! The statements about the buttons and mode cycling (spec 44): SAMPLE takes both asserted levels of one draw (rule R178),
PBECLR and SRFSET write one flag each (rules R181, R209), MODEADV takes the next mode (rule R183), and cycling goes round the
mode range (rule R186). The last rests on one number for the mode after k applications, `toNat_modeAfter_iterate`. -/

namespace Sys2Proof.Machine

/-! ### MODEADV (O33) -/

/-- MODEADV puts the mode after MODE into MODE (rule R183). -/
theorem exec_modeadv (s : State) :
    exec .modeadv s = .next { s with mode := modeAfter s.cfg s.mode, pc := s.pc + 1 } := rfl

/-- The mode after the last mode, or after one outside the range, is START_MODE (rule R183). -/
theorem toNat_modeAfter_of_wrap (c : Config) {m : Byte} (h : m.toNat < c.startMode ∨ c.modeCount ≤ m.toNat + 1) :
    (modeAfter c m).toNat = c.startMode := by
  have hwrap : (decide (m.toNat < c.startMode) || decide (m.toNat + 1 ≥ c.modeCount)) = true := by
    simpa using h
  rw [modeAfter, if_pos hwrap, toNat_startMode]

/-- The mode after any other mode of the range is the next number; MODE_COUNT is at most 255, so the register holds it
(rules R9, R183). -/
theorem toNat_modeAfter_of_next (c : Config) {m : Byte} (hlo : c.startMode ≤ m.toNat) (hhi : m.toNat + 1 < c.modeCount) :
    (modeAfter c m).toNat = m.toNat + 1 := by
  obtain ⟨-, hmax, -⟩ := config_constraints c
  rw [modeAfter, if_neg (by simp [hlo, hhi]), BitVec.toNat_add]
  exact Nat.mod_eq_of_lt (show m.toNat + 1 < 256 by omega)

/-- Settles O33: MODEADV writes `modeAfter` of MODE, in either case of rule R183. -/
theorem modeadvAdvancesAndWraps : Obligations.ModeadvAdvancesAndWraps :=
  ⟨hasWord_of_encode rfl rfl, fun s => ⟨_, exec_modeadv s, toNat_modeAfter_of_wrap s.cfg, toNat_modeAfter_of_next s.cfg, rfl,
    sameMemory_of_eq rfl rfl rfl rfl⟩⟩

/-! ### Mode cycling (O34) -/

/-- Inside the range the mode after `m` is one place on, counted round the range (rule R186). -/
theorem toNat_modeAfter_of_inside (c : Config) {m : Byte} (hlo : c.startMode ≤ m.toNat) (hhi : m.toNat < c.modeCount) :
    (modeAfter c m).toNat = c.startMode + (m.toNat - c.startMode + 1) % (c.modeCount - c.startMode) := by
  by_cases hlast : m.toNat + 1 < c.modeCount
  · rw [toNat_modeAfter_of_next c hlo hlast, Nat.mod_eq_of_lt (by omega)]
    omega
  · have hround : m.toNat - c.startMode + 1 = c.modeCount - c.startMode := by omega
    rw [toNat_modeAfter_of_wrap c (.inr (Nat.le_of_not_lt hlast)), hround, Nat.mod_self, Nat.add_zero]

/-- Cycling never leaves the mode range. -/
theorem modeAfter_iterate_inRange (c : Config) {m : Byte} (hm : c.startMode ≤ m.toNat ∧ m.toNat < c.modeCount) (k : Nat) :
    c.startMode ≤ ((modeAfter c)^[k] m).toNat ∧ ((modeAfter c)^[k] m).toNat < c.modeCount :=
  Function.Iterate.rec (fun b : Byte => c.startMode ≤ b.toNat ∧ b.toNat < c.modeCount) hm (fun b _ => modeAfter_inRange c b) k

/-- The mode `k` modes after `m` is `k` places on, counted round the range (rule R186). -/
theorem toNat_modeAfter_iterate (c : Config) {m : Byte} (hm : c.startMode ≤ m.toNat ∧ m.toNat < c.modeCount) (k : Nat) :
    ((modeAfter c)^[k] m).toNat = c.startMode + (m.toNat - c.startMode + k) % (c.modeCount - c.startMode) := by
  induction k with
  | zero =>
    rw [Function.iterate_zero_apply, Nat.add_zero, Nat.mod_eq_of_lt (by omega)]
    omega
  | succ k ih =>
    obtain ⟨hlo, hhi⟩ := modeAfter_iterate_inRange c hm k
    rw [Function.iterate_succ_apply', toNat_modeAfter_of_inside c hlo hhi, ih, Nat.add_sub_cancel_left, Nat.mod_add_mod,
      Nat.add_assoc]

/-- As many modes after `m` as the range holds, the mode is `m` again (rule R186). -/
theorem modeAfter_iterate_range (c : Config) {m : Byte} (hm : c.startMode ≤ m.toNat ∧ m.toNat < c.modeCount) :
    (modeAfter c)^[c.modeCount - c.startMode] m = m := by
  refine BitVec.eq_of_toNat_eq ?_
  rw [toNat_modeAfter_iterate c hm, Nat.add_mod_right, Nat.mod_eq_of_lt (by omega)]
  omega

/-- A sequence of `k` MODEADV writes MODE and PC alone. -/
theorem execAll_replicate_modeadv (s : State) (k : Nat) :
    execAll (List.replicate k .modeadv) s = .next { s with
      mode := (modeAfter s.cfg)^[k] s.mode
      pc := s.pc + BitVec.ofNat 6 k } := by
  induction k generalizing s with
  | zero => simp [execAll]
  | succ k ih =>
    have hpc : s.pc + 1 + BitVec.ofNat 6 k = s.pc + BitVec.ofNat 6 (k + 1) := by
      rw [BitVec.add_assoc, BitVec.add_comm 1, BitVec.ofNat_add]
      rfl
    rw [List.replicate_succ, execAll_cons (exec_modeadv s), ih, hpc, Function.iterate_succ_apply]

/-- Settles O34: `k` MODEADV apply `modeAfter` `k` times, which is `k` places round the range. -/
theorem modeCyclingIsCyclic : Obligations.ModeCyclingIsCyclic := fun s hs =>
  ⟨fun k => ⟨_, execAll_replicate_modeadv s k, modeAfter_iterate_inRange s.cfg hs k, toNat_modeAfter_iterate s.cfg hs k⟩,
    _, execAll_replicate_modeadv s _, modeAfter_iterate_range s.cfg hs⟩

/-! ### SAMPLE (O31) -/

/-- A button is asserted when its port level differs from BTN_ACTIVE_LOW (rule R58). -/
theorem assertedLevel_eq_true_iff (c : Config) (level : Bool) : assertedLevel c level = true ↔ level ≠ c.btnActiveLow :=
  bne_iff_ne

/-- SAMPLE puts the pair of one draw into SSP and SMD and uses that draw (rule R178). -/
theorem exec_sample (s : State) :
    exec .sample s = .next { s with
      ssp := s.buttonsDraw.1
      smd := s.buttonsDraw.2
      env := s.env.buttonsUsed
      pc := s.pc + 1 } := by
  rw [exec, execSample, s.afterButtons_eq, s.afterButtons_env]
  rfl

/-- Settles O31: the drawn pair is the pair of asserted levels of the drawn port levels. -/
theorem sampleCapturesLevels : Obligations.SampleCapturesLevels := by
  refine ⟨hasWord_of_encode rfl rfl, fun s p m hdraw => ?_⟩
  obtain ⟨rfl, rfl⟩ := Prod.mk.inj hdraw
  exact ⟨_, exec_sample s, rfl, rfl, assertedLevel_eq_true_iff _ _, assertedLevel_eq_true_iff _ _, rfl,
    sameMemory_of_eq rfl rfl rfl rfl⟩

/-! ### PBECLR and SRFSET (O32) -/

/-- PBECLR clears PBE, set or not, and moves PC on (rule R181). -/
theorem exec_pbeclr (s : State) : exec .pbeclr s = .next { s with pbe := false, pc := s.pc + 1 } := rfl

/-- SRFSET sets SRF and moves PC on (rule R209). -/
theorem exec_srfset (s : State) : exec .srfset s = .next { s with srf := true, pc := s.pc + 1 } := rfl

/-- Settles O32: each instruction answers the one state that rules R181 and R209 give. -/
theorem flagInstructionsWriteOneFlag : Obligations.FlagInstructionsWriteOneFlag :=
  ⟨hasWord_of_encode rfl rfl, hasWord_of_encode rfl rfl, fun s => ⟨exec_pbeclr s, exec_srfset s⟩⟩

end Sys2Proof.Machine
end


section
/-! The statements about the tick counters and the interval policy (spec 45): the counters saturate (rules R196 to R206,
R220), BR reads the policy of the selected mode (rules R207 to R216), and what follows for the light-edge policy (rules R218, R219).
The counting rests on one induction over the increments (`execAll_replicate_saturates`), the branches on what each condition
says (`State.cond_iff_condHolds_of_policy`, `State.efc_iff`). -/

namespace Sys2Proof.Machine

/-! ### The counters, one instruction at a time (O35 to O38) -/

/-- A bounded value fits a counter, so nothing of it is cut off (rules R196, R201). -/
theorem toNat_ofNat_ticks {n M : Nat} (hn : n ≤ M) (hM : M < 2 ^ 16) : (BitVec.ofNat 16 n).toNat = n := by
  rw [BitVec.toNat_ofNat, Nat.mod_eq_of_lt (hn.trans_lt hM)]

/-- MTINC puts the saturating increment of MT into MT (rule R197). -/
theorem exec_mtinc (s : State) :
    exec .mtinc s = .next { s with mt := BitVec.ofNat 16 (satInc s.mt.toNat (maxInt s.cfg)), pc := s.pc + 1 } := rfl

/-- The counter holds the increment that MTINC computes without wrap (rule R197). -/
theorem toNat_mtinc (s : State) :
    (BitVec.ofNat 16 (satInc s.mt.toNat (maxInt s.cfg))).toNat = satInc s.mt.toNat (maxInt s.cfg) :=
  toNat_ofNat_ticks (satInc_le _ _) (maxInt_lt s.cfg)

/-- Settles O35: MT holds the saturating increment, whose two cases are the two clauses. -/
theorem mtincSaturates : Obligations.MtincSaturates :=
  ⟨hasWord_of_encode rfl rfl, fun s => ⟨_, exec_mtinc s, fun habove => (toNat_mtinc s).trans (if_pos habove),
    fun hwithin => (toNat_mtinc s).trans (if_neg (Nat.not_lt.2 hwithin)), rfl, sameMemory_of_eq rfl rfl rfl rfl⟩⟩

/-- MTCLAMP puts the smaller of MT and MAX_INT into MT (rule R201). -/
theorem exec_mtclamp (s : State) :
    exec .mtclamp s = .next { s with mt := BitVec.ofNat 16 (min s.mt.toNat (maxInt s.cfg)), pc := s.pc + 1 } := rfl

/-- Settles O36: the smaller of the two fits MT, and is MT itself within the bound. -/
theorem mtclampBounds : Obligations.MtclampBounds := by
  refine ⟨hasWord_of_encode rfl rfl, fun s => ?_⟩
  have hclamped : (BitVec.ofNat 16 (min s.mt.toNat (maxInt s.cfg))).toNat = min s.mt.toNat (maxInt s.cfg) :=
    toNat_ofNat_ticks (Nat.min_le_right _ _) (maxInt_lt s.cfg)
  exact ⟨_, exec_mtclamp s, hclamped, fun hwithin => BitVec.eq_of_toNat_eq (hclamped.trans (Nat.min_eq_left hwithin)), rfl,
    sameMemory_of_eq rfl rfl rfl rfl⟩

/-- MTCLR zeroes MT and moves PC on (rule R199). -/
theorem exec_mtclr (s : State) : exec .mtclr s = .next { s with mt := 0, pc := s.pc + 1 } := rfl

/-- LTCLR zeroes LT and moves PC on (rule R206). -/
theorem exec_ltclr (s : State) : exec .ltclr s = .next { s with lt := 0, pc := s.pc + 1 } := rfl

/-- Settles O37: each instruction answers the one state that rules R199 and R206 give. -/
theorem clearsZeroTheCounter : Obligations.ClearsZeroTheCounter :=
  ⟨hasWord_of_encode rfl rfl, hasWord_of_encode rfl rfl, fun s => ⟨exec_mtclr s, exec_ltclr s⟩⟩

/-- LTINC puts the saturating increment of LT into LT (rule R203). -/
theorem exec_ltinc (s : State) :
    exec .ltinc s = .next { s with lt := BitVec.ofNat 16 (satInc s.lt.toNat s.cfg.maxLight.toNat), pc := s.pc + 1 } := rfl

/-- The counter holds the increment that LTINC computes without wrap (rule R203). -/
theorem toNat_ltinc (s : State) :
    (BitVec.ofNat 16 (satInc s.lt.toNat s.cfg.maxLight.toNat)).toNat = satInc s.lt.toNat s.cfg.maxLight.toNat :=
  toNat_ofNat_ticks (satInc_le _ _) s.cfg.maxLight.isLt

/-- Settles O38: LT holds the saturating increment, whose two cases are the two clauses. -/
theorem ltincSaturates : Obligations.LtincSaturates :=
  ⟨hasWord_of_encode rfl rfl, fun s => ⟨_, exec_ltinc s, fun habove => (toNat_ltinc s).trans (if_pos habove),
    fun hwithin => (toNat_ltinc s).trans (if_neg (Nat.not_lt.2 hwithin)), rfl, sameMemory_of_eq rfl rfl rfl rfl⟩⟩

/-! ### The saturation laws (O39) -/

/-- `n` executions of an instruction that increments a counter, saturating at a bound of the configuration, count up by `n`
and no further than the bound (rule R220). -/
theorem execAll_replicate_saturates {i : Instr} {counter : State → Ticks} {bound : Config → Nat}
    (hinc : ∀ s, ∃ t, exec i s = .next t ∧ t.cfg = s.cfg ∧
      (counter t).toNat = satInc (counter s).toNat (bound s.cfg))
    (n : Nat) (s : State) (hs : (counter s).toNat ≤ bound s.cfg) :
    ∃ t, execAll (List.replicate n i) s = .next t ∧
      (counter t).toNat = min ((counter s).toNat + n) (bound s.cfg) := by
  induction n generalizing s with
  | zero => exact ⟨s, rfl, (Nat.min_eq_left hs).symm⟩
  | succ n ih =>
    obtain ⟨t, hexec, hcfg, hcount⟩ := hinc s
    rw [satInc_of_le hs] at hcount
    have ht : (counter t).toNat ≤ bound t.cfg := by
      rw [hcount, hcfg]
      exact Nat.min_le_right _ _
    obtain ⟨u, hrest, hfinal⟩ := ih t ht
    refine ⟨u, (execAll_cons hexec _).trans hrest, ?_⟩
    rw [hfinal, hcount, hcfg]
    omega

/-- Settles O39: both increments keep the configuration, so both counters count up to their bound. -/
theorem saturationLaws : Obligations.SaturationLaws := fun s n =>
  ⟨execAll_replicate_saturates (counter := State.mt) (bound := maxInt)
      (fun s => ⟨_, exec_mtinc s, rfl, toNat_mtinc s⟩) n s,
    execAll_replicate_saturates (counter := State.lt) (bound := fun c => c.maxLight.toNat)
      (fun s => ⟨_, exec_ltinc s, rfl, toNat_ltinc s⟩) n s⟩

/-! ### BR, taken and not taken (rule R229) -/

/-- BR goes to its target when the condition, inverted by N, holds. -/
theorem exec_br_of_taken {s : State} {n : Bool} {c : Cond} (h : (s.cond c ^^ n) = true) (t : RomAddr) :
    exec (.br n c t) s = .next { s with pc := t } := by
  rw [exec, execBr, if_pos h]
  rfl

/-- BR goes to the next word when the condition, inverted by N, does not hold. -/
theorem exec_br_of_not_taken {s : State} {n : Bool} {c : Cond} (h : (s.cond c ^^ n) = false) (t : RomAddr) :
    exec (.br n c t) s = .next { s with pc := s.pc + 1 } := by
  rw [exec, execBr, if_neg (Bool.eq_false_iff.1 h)]
  rfl

/-- Once its condition says `P`, BR is decided by `P` and N alone. -/
theorem exec_br_of_cond_iff {s : State} {c : Cond} {P : Prop} (h : s.cond c = true ↔ P) (n : Bool) (t : RomAddr) :
    ((P ∧ n = false) ∨ (¬ P ∧ n = true) → exec (.br n c t) s = .next { s with pc := t }) ∧
      ((P ∧ n = true) ∨ (¬ P ∧ n = false) → exec (.br n c t) s = .next { s with pc := s.pc + 1 }) := by
  rw [← h, Bool.not_eq_true]
  constructor
  · rintro (⟨hc, rfl⟩ | ⟨hc, rfl⟩) <;> exact exec_br_of_taken (by rw [hc]; rfl) t
  · rintro (⟨hc, rfl⟩ | ⟨hc, rfl⟩) <;> exact exec_br_of_not_taken (by rw [hc]; rfl) t

/-! ### The catalogue entries of a mode of the range (rule R207) -/

/-- POL of a mode of the range is its catalogue entry. -/
theorem State.policyOf_mode {s : State} (h : s.ModeInRange) : policyOf s.cfg s.mode = s.catalogPolicy :=
  if_pos ((inModeRange_iff _ _).2 h)

/-- LR of a mode of the range is its catalogue entry. -/
theorem State.lightReactive_mode {s : State} (h : s.ModeInRange) : lightReactive s.cfg s.mode = s.catalogLr :=
  if_pos ((inModeRange_iff _ _).2 h)

/-- The interval table is the list of the three intervals (rule R8). -/
theorem intervalTable_eq_getD (c : Config) {i : Nat} (hi : i < 3) :
    intervalTable c i = [c.itShort, c.itMedium, c.itLong].getD i 0 := by
  interval_cases i <;> rfl

/-- IV of a mode of the range is the interval of its tier. -/
theorem State.toNat_intervalOf_mode {s : State} (h : s.ModeInRange) :
    (intervalOf s.cfg s.mode).toNat = s.catalogInterval := by
  have htier : tierOf s.cfg s.mode < 3 := Nat.mod_lt _ (Nat.succ_pos 2)
  rw [intervalOf, if_pos ((inModeRange_iff _ _).2 h), intervalTable_eq_getD _ htier, tierOf, State.catalogInterval]

/-! ### What each policy condition says (O12) -/

/-- IMD: the mode has a policy (rule R210). -/
theorem State.imd_iff {s : State} (h : s.ModeInRange) : s.imd = true ↔ s.catalogPolicy ≠ .none := by
  rw [State.imd, State.policyOf_mode h, bne_iff_ne]

/-- IEL: the mode has a policy and its interval has elapsed (rule R211). -/
theorem State.iel_iff {s : State} (h : s.ModeInRange) :
    s.iel = true ↔ s.catalogPolicy ≠ .none ∧ s.mt.toNat ≥ s.catalogInterval := by
  rw [State.iel, State.toNat_intervalOf_mode h, Bool.and_eq_true, State.imd_iff h, decide_eq_true_iff]

/-- What a policy asks of the light, policy by policy (rules R213 to R215). -/
theorem State.policyLight_iff (s : State) (p : Policy) :
    s.policyLight p = true ↔
      (p = .a ∧ (s.lon = false ∨ s.lt.toNat ≥ s.cfg.maxLight.toNat)) ∨ (p = .b ∧ s.lon = true) ∨
        (p = .c ∧ s.lon = false) := by
  cases p <;> simp [State.policyLight]

/-- IFC: the interval has elapsed and the light is as the policy asks (rule R212). A mode without a policy asks nothing that
holds, so that there is a policy need not be said besides. -/
theorem State.ifc_iff {s : State} (h : s.ModeInRange) : s.ifc = true ↔ s.CondHolds .ifc := by
  have hpolicy : s.policyLight s.catalogPolicy = true → s.catalogPolicy ≠ .none := by
    intro hlight hnone
    rw [hnone] at hlight
    cases hlight
  rw [State.ifc, Bool.and_eq_true, State.policyOf_mode h, State.iel_iff h, State.CondHolds, ← State.policyLight_iff]
  tauto

/-- EFC, in any mode: a light-reactive mode, long enough lit, and the guard time past (rule R216). -/
theorem State.efc_iff (s : State) :
    s.efc = true ↔ lightReactive s.cfg s.mode = true ∧ s.lt.toNat > s.cfg.minLightOn.toNat ∧
      s.mt.toNat > s.cfg.guardTicks.toNat := by
  rw [State.efc, Bool.and_eq_true, Bool.and_eq_true, decide_eq_true_iff, decide_eq_true_iff, and_assoc]

/-- In a mode of the range a condition that reads the policy holds as rules R210 to R216 say. -/
theorem State.cond_iff_condHolds_of_policy {s : State} (hs : s.ModeInRange) {c : Cond} (hc : readsPolicy c = true) :
    s.cond c = true ↔ s.CondHolds c := by
  cases c with
  | imd => exact State.imd_iff hs
  | iel => exact State.iel_iff hs
  | ifc => exact State.ifc_iff hs
  | efc =>
    rw [State.cond, s.efc_iff, State.lightReactive_mode hs, State.CondHolds]
  | alw | pbe | srf | ssp | smd | lon => cases hc

/-- Settles O12: the condition read by BR is the one of rules R210 to R216. -/
theorem branchOnPolicy : Obligations.BranchOnPolicy := fun _ n _ t hs hc =>
  exec_br_of_cond_iff (State.cond_iff_condHolds_of_policy hs hc) n t

/-! ### What follows from the counters and the configuration (O40, O41) -/

/-- Without both times past their limits the light-edge policy does not fire, in any mode (rule R216). -/
theorem exec_br_efc_of_within {s : State}
    (h : s.lt.toNat ≤ s.cfg.minLightOn.toNat ∨ s.mt.toNat ≤ s.cfg.guardTicks.toNat) (t : RomAddr) :
    exec (.br false .efc t) s = .next { s with pc := s.pc + 1 } := by
  have hidle : s.cond .efc = false := by
    rw [Bool.eq_false_iff, ne_eq, State.cond, s.efc_iff]
    rintro ⟨-, hlit, hguard⟩
    omega
  exact exec_br_of_not_taken ((Bool.xor_false _).trans hidle) t

/-- Settles O40: the cleared MT is not above GUARD, whatever GUARD is. -/
theorem noEdgeFireAfterClear : Obligations.NoEdgeFireAfterClear := fun s t =>
  ⟨_, exec_mtclr s, exec_br_efc_of_within (.inr (Nat.zero_le _)) t⟩

/-- Settles O41: a counter within its bound is within a limit at or above that bound, and any MT has reached an
interval of 0. -/
theorem configurationConsequences : Obligations.ConfigurationConsequences := by
  refine fun s t => ⟨fun hguard hmt => ?_, fun hlight hlt => ?_, fun hs hpolicy hzero => ?_⟩
  · exact exec_br_efc_of_within (.inr (hmt.trans hguard)) t
  · exact exec_br_efc_of_within (.inl (hlt.trans hlight)) t
  · have helapsed : s.CondHolds .iel := ⟨hpolicy, hzero ▸ Nat.zero_le _⟩
    exact (branchOnPolicy s false .iel t hs rfl).1 (.inl ⟨helapsed, rfl⟩)

end Sys2Proof.Machine
end

section
/-! The statements about the micro-sequencer (spec 46): the cases of a step of USEQ (rule R226), its own instructions NOP, BR,
EI, DI and SLEEP (rules R228 to R238), the hang of a block asleep with IE = 0 (rule R239), and services that fall into a timed
instruction (rule R227). -/

namespace Sys2Proof.Machine

/-! ### The cases of rule R226 that execute nothing -/

/-- USEQ takes no step for its lock exactly when the block is locked (rule R226). -/
theorem State.useqAction_locked_iff (s : State) : s.useqAction = .locked ↔ s.locked = true := by
  rcases s.useqAction_cases with ⟨hl, h⟩ | ⟨hl, -, -, h⟩ | ⟨hl, -, -, h⟩ | ⟨hl, -, -, h⟩ <;> simp [hl, h]

/-- USEQ takes no step for its sleep exactly when it is asleep, not locked and has nothing to service (rule R226). -/
theorem State.useqAction_asleep_iff (s : State) :
    s.useqAction = .asleep ↔ s.locked = false ∧ (s.ie && (s.tpend || s.ppend)) = false ∧ s.sleeping = true := by
  rcases s.useqAction_cases with ⟨hl, h⟩ | ⟨-, hie, hp, h⟩ | ⟨hl, hn, hs, h⟩ | ⟨-, -, hs, h⟩
  · simp [hl, h]
  · rcases hp with hp | hp <;> simp [hie, hp, h]
  · simp [hl, hn, hs, h]
  · simp [hs, h]

/-- With IE = 0 USEQ services no latch (rule R226). -/
theorem State.useqAction_ne_service {s : State} (hie : s.ie = false) : s.useqAction ≠ .service := by
  rw [ne_eq, s.useqAction_service_iff, hie]
  simp

/-- Asleep, USEQ decodes no word (rule R226). -/
theorem State.nextWord_of_sleeping {s : State} (hs : s.sleeping = true) : s.nextWord = none := by
  rw [Option.eq_none_iff_forall_ne_some]
  intro w hw
  obtain ⟨-, hact⟩ := (s.nextWord_eq_some_iff w).1 hw
  obtain ⟨-, -, hawake, -⟩ := (s.useqAction_execute_iff w).1 hact
  rw [hs] at hawake
  cases hawake

/-- Where USEQ does not execute a word, the next step executes no instruction. -/
theorem State.nextInstr_of_not_execute {s : State} (h : ∀ w, s.useqAction ≠ .execute w) : s.nextInstr = none := by
  rw [Option.eq_none_iff_forall_ne_some]
  intro i hi
  obtain ⟨w, hw, -⟩ := (s.nextInstr_eq_some_iff i).1 hi
  exact h w ((s.nextWord_eq_some_iff w).1 hw).2

/-- On the turn of a USEQ that is locked or asleep, the turn is used and nothing else happens (rule R226). -/
theorem step_of_idle {s : State} (hturn : s.useqTurn = true) (h : s.useqAction = .locked ∨ s.useqAction = .asleep) :
    s.nextInstr = none ∧ step s = .next s.turnTaken := by
  rw [step_of_useqTurn hturn, useqStep, s.useqAction_turnTaken]
  rcases h with h | h <;> exact ⟨State.nextInstr_of_not_execute (by simp [h]), by rw [h]⟩

/-- On USEQ's turn to service a latch, the step is that service (rule R226). -/
theorem step_of_service {s : State} (hturn : s.useqTurn = true) (h : s.useqAction = .service) :
    s.nextInstr = none ∧ step s = .next s.turnTaken.service := by
  rw [step_of_useqTurn hturn, useqStep, s.useqAction_turnTaken, h]
  exact ⟨State.nextInstr_of_not_execute (by simp [h]), rfl⟩

/-! ### Asleep with interrupts off (O17) -/

/-- Settles O17: with IE = 0 there is no service and a sleeping USEQ decodes nothing, so only the idle step and the two
arrivals are left. -/
theorem asleepWithInterruptsOffStays : Obligations.AsleepWithInterruptsOffStays := by
  intro s t hsleep hie hreset hstep
  have hservice : s.servicesNext = false := by simp [State.servicesNext, State.useqAction_ne_service hie]
  have hword : s.nextWord = none := State.nextWord_of_sleeping hsleep
  cases step_effect hstep with
  | idle | tick | pchg => rfl
  | tickService hn | pchgService hn => rw [hservice] at hn; cases hn
  | executed hi => rw [State.nextInstr, hword] at hi; cases hi
  | illegal hw => rw [hword] at hw; cases hw
  | reset hr | cutReset hr => rw [hreset] at hr; cases hr

/-! ### Services in a timed instruction (O46) -/

/-- Settles O46: what a timed instruction reads and writes holds none of the five flags that a service writes, so the two
can be exchanged in the state that each instruction answers. -/
theorem timedInstructionsCommuteWithServices : Obligations.TimedInstructionsCommuteWithServices := by
  rintro s i (rfl | rfl | rfl | ⟨d, rfl⟩ | ⟨p, b, k, rfl, hwf⟩ | ⟨rfl, -⟩)
  · exact ⟨_, exec_cal s, exec_cal s.serviceTick, exec_cal s.servicePchg⟩
  · exact ⟨_, exec_sense s, exec_sense s.serviceTick, exec_sense s.servicePchg⟩
  · exact ⟨_, exec_pulse s, exec_pulse s.serviceTick, exec_pulse s.servicePchg⟩
  · exact ⟨_, exec_delay d s, exec_delay d s.serviceTick, exec_delay d s.servicePchg⟩
  · have htick : s.serviceTick.blinkCount b k = s.blinkCount b k := rfl
    have hpchg : s.servicePchg.blinkCount b k = s.blinkCount b k := rfl
    refine ⟨_, exec_blink hwf s, ?_, ?_⟩
    · rw [exec_blink hwf, htick]
      split <;> rfl
    · rw [exec_blink hwf, hpchg]
      split <;> rfl
  · exact ⟨_, exec_nvmst s, exec_nvmst s.serviceTick, exec_nvmst s.servicePchg⟩

/-! ### A step of USEQ (O5, O6) -/

/-- Settles O5: no guard of rule R226 holds, so USEQ executes the word at PC, and that word decodes to `i`. -/
theorem stepRunsDecodedInstruction : Obligations.StepRunsDecodedInstruction := by
  intro s i hturn hlocked hservice hawake hdec
  have hact : s.useqAction = .execute (s.romFetch s.pc) :=
    (s.useqAction_execute_iff _).2 ⟨hlocked, hservice, hawake, rfl⟩
  refine ⟨wellFormed_of_decode hdec, ?_, rfl⟩
  rw [step_of_useqTurn hturn, useqStep, s.useqAction_turnTaken, hact]
  simp only [hdec]

/-- Settles O6: each guard is a case of `useqAction` other than the execution of a word. -/
theorem stepDoesNotExecuteWhenLockedServicingOrAsleep : Obligations.StepDoesNotExecuteWhenLockedServicingOrAsleep := by
  intro s hturn
  refine ⟨fun hlocked => ?_, fun hlocked hie htick => ?_, fun hlocked hie htick hpchg => ?_,
    fun hlocked hquiet hsleep => ?_⟩
  · exact step_of_idle hturn (.inl (s.useqAction_locked_iff.2 hlocked))
  · have hservice : s.turnTaken.service = s.turnTaken.serviceTick := if_pos htick
    have hstep := step_of_service hturn (s.useqAction_service_iff.2 ⟨hlocked, hie, .inl htick⟩)
    rw [hservice] at hstep
    exact hstep
  · have hservice : s.turnTaken.service = s.turnTaken.servicePchg := if_neg (Bool.eq_false_iff.1 htick)
    have hstep := step_of_service hturn (s.useqAction_service_iff.2 ⟨hlocked, hie, .inr hpchg⟩)
    rw [hservice] at hstep
    exact hstep
  · have hnone : (s.ie && (s.tpend || s.ppend)) = false := by
      rcases hquiet with hie | ⟨htick, hpchg⟩
      · rw [hie, Bool.false_and]
      · rw [htick, hpchg, Bool.or_false, Bool.and_false]
    exact step_of_idle hturn (.inr (s.useqAction_asleep_iff.2 ⟨hlocked, hnone, hsleep⟩))

/-! ### NOP (O8) -/

/-- NOP changes nothing but PC (rule R228). -/
theorem exec_nop (s : State) : exec .nop s = .next { s with pc := s.pc + 1 } := rfl

/-- Settles O8: PC has six bits, so the address after 0x3F is 0x00. -/
theorem nopOnlyAdvances : Obligations.NopOnlyAdvances := by
  refine ⟨hasWord_of_encode rfl rfl, exec_nop, fun s hpc => ?_⟩
  rw [exec_nop, hpc]
  rfl

/-! ### BR on a flag, and a BR with its inverse (O11, O13) -/

/-- A condition that does not read the policy is its flag, in every state (rule R230). -/
theorem State.cond_iff_condHolds_of_flag (s : State) {c : Cond} (hc : readsPolicy c = false) :
    s.cond c = true ↔ s.CondHolds c := by
  cases c with
  | alw => exact iff_of_true rfl trivial
  | pbe | srf | ssp | smd | lon => rfl
  | iel | ifc | efc | imd => cases hc

/-- Settles O11: the condition read by BR is the flag. -/
theorem branchOnFlag : Obligations.BranchOnFlag := fun s n _ t hc =>
  exec_br_of_cond_iff (s.cond_iff_condHolds_of_flag hc) n t

/-- Settles O13: N inverts the one value that the condition has, whatever it is. -/
theorem branchAndInverseSplit : Obligations.BranchAndInverseSplit := by
  intro s c t
  cases hc : s.cond c with
  | true => exact .inl ⟨exec_br_of_taken (by rw [hc]; rfl) t, exec_br_of_not_taken (by rw [hc]; rfl) t⟩
  | false => exact .inr ⟨exec_br_of_not_taken (by rw [hc]; rfl) t, exec_br_of_taken (by rw [hc]; rfl) t⟩

/-! ### EI and DI (O14, O15) -/

/-- Settles O14: EI touches neither the lock nor the latches, so with IE = 1 a latch that is set is serviced next. -/
theorem eiEnablesAtOnce : Obligations.EiEnablesAtOnce :=
  ⟨hasWord_of_encode rfl rfl, fun s => ⟨_, exec_ei s, rfl, fun hlocked hlatch =>
    (State.useqAction_service_iff _).2 ⟨hlocked, rfl, hlatch⟩⟩⟩

/-- Settles O15: with IE = 0 no latch is serviced. -/
theorem diHoldsLatches : Obligations.DiHoldsLatches :=
  ⟨hasWord_of_encode rfl rfl, fun s => ⟨_, exec_di s, rfl, State.useqAction_ne_service rfl⟩⟩

/-! ### SLEEP (O16) -/

/-- SLEEP sets SLEEPING when no work is pending, and moves PC on (rule R238). -/
theorem exec_sleep (s : State) :
    exec .sleep s = .next { s with sleeping := s.sleeping || (!s.pbe && s.srf), pc := s.pc + 1 } := by
  rw [exec, execSleep]
  cases !s.pbe && s.srf with
  | true => rw [if_pos rfl, Bool.or_true]; rfl
  | false => rw [if_neg Bool.false_ne_true, Bool.or_false]; rfl

/-- Settles O16: no work is pending exactly when PBE = 0 and SRF = 1. -/
theorem sleepOnlyWhenNothingPending : Obligations.SleepOnlyWhenNothingPending := by
  refine ⟨hasWord_of_encode rfl rfl, fun s => ⟨fun hpbe hsrf => ?_, fun hwork => ?_⟩⟩
  · rw [exec_sleep, hpbe, hsrf, Bool.not_false, Bool.and_true, Bool.or_true]
  · have hpending : (!s.pbe && s.srf) = false := by
      rcases hwork with h | h <;> simp [h]
    rw [exec_sleep, hpending, Bool.or_false]

end Sys2Proof.Machine
end

section
/-! The statements about the hardware's ROM (spec 47): every step keeps the control invariant (rules R250, R256, R263), and the
critical sections of the ROM bracket PULSE and NVMST (rules R256, R334, R335). Both rest on one table of the ROM's words
(`romWord_table`), checked address by address, and on where an instruction goes (`exec_pc_mem_successors`) and what it does to
IE (`exec_ie`). -/

namespace Sys2Proof.Machine

/-! ### Where an instruction goes, and what it does to IE -/

/-- The addresses that an instruction at `a` can go on to: a BR on ALW has its target alone, another BR its target and the next
word, the rest the next word (rules R226, R229). -/
def successors (a : RomAddr) : Instr → List RomAddr
  | .br false .alw t => [t]
  | .br _ _ t => [a + 1, t]
  | _ => [a + 1]

/-- IE after an instruction that found it as `ie` (rules R40, R232, R233). -/
def ieAfter (ie : Bool) : Instr → Bool
  | .ei => true
  | .di => false
  | _ => ie

/-- A BR can go to its target. -/
theorem target_mem_successors (a : RomAddr) (n : Bool) (c : Cond) (d : RomAddr) : d ∈ successors a (.br n c d) := by
  unfold successors
  split <;> simp_all

/-- A BR that can fail can go to the next word. -/
theorem next_mem_successors (a : RomAddr) {n : Bool} {c : Cond} (h : ¬ (n = false ∧ c = .alw)) (d : RomAddr) :
    a + 1 ∈ successors a (.br n c d) := by
  unfold successors
  split <;> simp_all

/-- A legal instruction goes on to one of its successors. -/
theorem exec_pc_mem_successors {i : Instr} {s t : State} (hl : i.legal = true) (h : exec i s = .next t) :
    t.pc ∈ successors s.pc i := by
  cases i with
  | br n c d =>
    cases hc : (s.cond c ^^ n) with
    | true =>
      cases (exec_br_of_taken hc d).symm.trans h
      exact target_mem_successors s.pc n c d
    | false =>
      cases (exec_br_of_not_taken hc d).symm.trans h
      refine next_mem_successors s.pc ?_ d
      rintro ⟨rfl, rfl⟩
      cases hc
  | blink p src k =>
    rw [exec_blink (by simpa [Instr.legal, Instr.reservedRow] using hl)] at h
    cases h
    split <;> exact List.mem_singleton_self _
  | sleep =>
    cases (exec_sleep s).symm.trans h
    exact List.mem_singleton_self _
  | nop | nvmld | nvmst | cal | sense | mtinc | mtclr | mtclamp | ltinc | ltclr | modeadv | sample | pulse | delay | ei | di
  | srfset | pbeclr =>
    cases h
    simp [successors, State.afterMeasure_eq]
  | _ => cases hl

/-- EI sets IE, DI clears it, and every other instruction leaves it alone (rules R40, R232, R233). -/
theorem exec_ie {i : Instr} {s t : State} (h : exec i s = .next t) : t.ie = ieAfter s.ie i := by
  cases i with
  | ei => cases h; rfl
  | di => cases h; rfl
  | _ => simpa [ieAfter] using (exec_frame h).ie

/-! ### The table of the ROM -/

/-- The IE that the ROM's critical sections fix for an instruction: 0 for what no service may interrupt and for the EI that ends
a section, 1 for what stands outside and for the DI that begins one; none for the rest (rule R256). -/
def sectionIe : Instr → Option Bool
  | .pulse | .nvmst | .blink .mack _ _ | .delay .settle | .ei => some false
  | .di | .sleep | .blink .pre _ _ | .delay .debounce => some true
  | _ => none

/-- What the table of rule R250 says of instruction `i` at address `a`: it goes to used words alone, IE there is what it leaves
of the IE at `a`, a SLEEP goes to 0x33, and IE at `a` is what the critical sections fix for `i` (rules R256, R261, R263). -/
abbrev FitsTable (a : RomAddr) (i : Instr) : Prop :=
  (∀ b ∈ successors a i, b.toNat ≤ 0x33 ∧ interruptsOnAt b = ieAfter (interruptsOnAt a) i ∧ (i = .sleep → b = 0x33)) ∧
    ∀ ie ∈ sectionIe i, interruptsOnAt a = ie

/-- A word that encodes an immediate BLINK decodes to it alone. -/
theorem eq_blink_of_decode {i : Instr} {p : PatternClass} {k : BitVec 7}
    (h : decode (0x6800 + 0x100 * p.code.setWidth 16 + k.setWidth 16) = .ok i) : i = .blink p false k := by
  rw [← encode_blink_immediate, decodeEncodeAgree (.blink p false k) rfl] at h
  exact (Except.ok.inj h).symm

/-- A BLINK fits where the next word is used and has the same IE, which is the one that the critical sections fix for it. -/
theorem fitsTable_blink {a : RomAddr} {p : PatternClass} {k : BitVec 7}
    (hnext : (a + 1).toNat ≤ 0x33 ∧ interruptsOnAt (a + 1) = interruptsOnAt a)
    (hsec : ∀ ie ∈ sectionIe (.blink p false k), interruptsOnAt a = ie) : FitsTable a (.blink p false k) :=
  ⟨by simpa [successors, ieAfter] using hnext, hsec⟩

/-- Every used word of the ROM fits the table: the four BLINKs of a configured count whatever the count, the others address by
address (rule R250). -/
theorem romWord_table (c : Config) {a : RomAddr} {i : Instr} (ha : a.toNat ≤ 0x33)
    (hd : decode (romWord c a.toNat) = .ok i) : FitsTable a i := by
  have plain : ∀ a : RomAddr, a.toNat ≤ 0x33 →
      ∀ i ∈ (decode (romWord plainConfig a.toNat)).toOption, FitsTable a i := by decide
  rcases romWord_cases c a with ⟨-, rfl | hpre⟩ | h
  · obtain rfl := eq_blink_of_decode (p := .boot) (k := c.nBoot) hd
    exact fitsTable_blink (by decide) (by simp [sectionIe])
  · rcases hpre with rfl | rfl | rfl
    all_goals
      obtain rfl := eq_blink_of_decode (p := .pre) (k := c.nPre) hd
      exact fitsTable_blink (by decide) (by simp [sectionIe, interruptsOnAt])
  · rw [h] at hd
    exact plain a ha i (by rw [hd]; rfl)

/-! ### What is next in a state of the control invariant -/

/-- The next word is the ROM's at PC. -/
theorem State.FixedRomInv.nextWord_eq {s : State} (h : s.FixedRomInv) {w : Word} (hw : s.nextWord = some w) :
    w = romWord s.cfg s.pc.toNat := by
  obtain ⟨-, hact⟩ := (s.nextWord_eq_some_iff w).1 hw
  obtain ⟨-, -, -, rfl⟩ := (s.useqAction_execute_iff w).1 hact
  rw [State.romFetch, h.romFixed, Memory.read_nil]

/-- The next word is not illegal. -/
theorem State.FixedRomInv.nextWord_legal {s : State} (h : s.FixedRomInv) {w : Word} (hw : s.nextWord = some w) :
    illegalWord w = false := by
  rw [h.nextWord_eq hw]
  exact not_illegalWord_romWord s.cfg s.pc

/-- The next instruction is legal. -/
theorem State.FixedRomInv.nextInstr_legal {s : State} (h : s.FixedRomInv) {i : Instr} (hi : s.nextInstr = some i) :
    i.legal = true := by
  by_contra hl
  obtain ⟨w, hw, hill⟩ := State.nextWord_illegal hi (Bool.eq_false_iff.2 hl)
  rw [h.nextWord_legal hw] at hill
  cases hill

/-- The next instruction fits the table at PC. -/
theorem State.FixedRomInv.nextInstr_table {s : State} (h : s.FixedRomInv) {i : Instr} (hi : s.nextInstr = some i) :
    FitsTable s.pc i := by
  obtain ⟨w, hw, hd⟩ := (s.nextInstr_eq_some_iff i).1 hi
  rw [h.nextWord_eq hw] at hd
  exact romWord_table s.cfg h.pcUsed hd

/-- IE is what the critical sections fix for the next instruction. -/
theorem State.FixedRomInv.ie_of_nextInstr {s : State} (h : s.FixedRomInv) {i : Instr} {ie : Bool}
    (hi : s.nextInstr = some i) (hsec : sectionIe i = some ie) : s.ie = ie := by
  obtain ⟨-, hie⟩ := h.nextInstr_table hi
  rw [h.ieByAddress]
  exact hie ie hsec

/-- A state that executes an instruction next is awake (rule R226). -/
theorem State.awake_of_nextInstr {s : State} {i : Instr} (hi : s.nextInstr = some i) : s.sleeping = false := by
  obtain ⟨w, hw, -⟩ := (s.nextInstr_eq_some_iff i).1 hi
  refine Bool.eq_false_iff.2 fun hs => ?_
  rw [State.nextWord_of_sleeping hs] at hw
  cases hw

/-! ### The control invariant (O53) -/

/-- Every instruction of the hardware's ROM keeps the control invariant: the table says it of the address it goes to. -/
theorem State.FixedRomInv.exec {i : Instr} {s t : State} (h : s.FixedRomInv) (hi : s.nextInstr = some i)
    (he : Machine.exec i s.turnTaken = .next t) : t.FixedRomInv := by
  have f := (exec_frame he).of_turnTaken
  have hl := h.nextInstr_legal hi
  obtain ⟨hnext, -⟩ := h.nextInstr_table hi
  obtain ⟨hused, hie, hsleep⟩ := hnext t.pc (exec_pc_mem_successors (s := s.turnTaken) hl he)
  constructor
  case romFixed => rw [f.rom, h.romFixed]
  case pcUsed => exact hused
  case ieByAddress => rw [exec_ie he, hie, State.turnTaken_ie, h.ieByAddress]
  case notLocked => rw [f.locked.resolve_right (by simp [hl]), h.notLocked]
  case asleepAfterSleep =>
    intro hs
    obtain ⟨rfl, -⟩ := f.sleeping.resolve_left (ne_of_set (State.awake_of_nextInstr hi) hs)
    exact hsleep rfl

/-- After a power-on reset of a block with the hardware's ROM the control invariant holds (rule R321). -/
theorem State.powerOnReset_fixedRomInv {s : State} (hrom : s.rom = []) : s.powerOnReset.FixedRomInv where
  romFixed := hrom
  pcUsed := Nat.zero_le _
  ieByAddress := rfl
  notLocked := rfl
  asleepAfterSleep hs := by cases hs

/-- The block sleeps with interrupts on, since it sleeps at 0x33 (rules R57, R340). -/
theorem State.FixedRomInv.ie_of_sleeping {s : State} (h : s.FixedRomInv) (hs : s.sleeping = true) : s.ie = true := by
  rw [h.ieByAddress, h.asleepAfterSleep hs]
  rfl

/-- Every step keeps the control invariant: an instruction by the table, a reset by its values, and no other step moves PC or
writes IE. -/
theorem State.FixedRomInv.step {s t : State} (h : s.FixedRomInv) (hstep : Machine.step s = .next t) : t.FixedRomInv := by
  cases step_effect hstep with
  | idle | tick | pchg => exact ⟨h.romFixed, h.pcUsed, h.ieByAddress, h.notLocked, h.asleepAfterSleep⟩
  | tickService | pchgService =>
    exact ⟨h.romFixed, h.pcUsed, h.ieByAddress, h.notLocked, fun hs => by cases hs⟩
  | illegal hw hill =>
    rw [h.nextWord_legal hw] at hill
    cases hill
  | executed hi he => exact h.exec hi he
  | reset => exact State.powerOnReset_fixedRomInv h.romFixed
  | cutReset => exact State.powerOnReset_fixedRomInv ((State.cut_rom _ _).trans h.romFixed)

/-- Settles O53: the invariant is kept, and it has IE = 1 where the block sleeps. -/
theorem stepKeepsFixedRomInvariant : Obligations.StepKeepsFixedRomInvariant := by
  intro s t h hstep
  have ht : t.FixedRomInv := h.step hstep
  exact ⟨ht, ht.ie_of_sleeping⟩

/-! ### The critical sections (O54) -/

/-- Settles O54: the ROM holds no illegal word, and IE is what the critical sections fix for each of the instructions. -/
theorem fixedRomBracketsPulseAndWrite : Obligations.FixedRomBracketsPulseAndWrite := by
  intro s h
  refine ⟨fun w => h.nextWord_legal, ?_, ?_⟩
  · rintro (hi | hi | hi | hi | hi) <;> exact h.ie_of_nextInstr hi rfl
  · rintro (hi | hi | ⟨b, k, hi⟩ | hi) <;> exact h.ie_of_nextInstr hi rfl

end Sys2Proof.Machine
end

section
/-! Two statements that other sections of the spec leave over: every step answers a next state (spec 46, logs 8 and 9), and
NVMST with IE = 0 stores MODE (spec 42). -/

namespace Sys2Proof.Machine

/-! ### Every step answers (O7) -/

/-- Every instruction answers a next state: a BLINK in both of its cases, every other row by its one equation
(rule R226, log 9). -/
theorem exec_answers (i : Instr) (s : State) : ∃ t, exec i s = .next t := by
  cases i with
  | blink p src k =>
    rw [exec, execBlink]
    split <;> exact ⟨_, rfl⟩
  | _ => exact ⟨_, rfl⟩

/-- Every step of USEQ answers a next state, whichever case of rule R226 applies. -/
theorem useqStep_answers (s : State) : ∃ t, useqStep s = .next t := by
  unfold useqStep
  cases s.useqAction with
  | locked | service | asleep => exact ⟨_, rfl⟩
  | execute w =>
    cases hd : decode w with
    | ok i => simpa only [hd] using exec_answers i s
    | error e => exact ⟨s.raiseIllegal w, by simp only [hd]⟩

/-- Settles O7: USEQ always answers, and so does every other turn. -/
theorem stepAlwaysAnswersNext : Obligations.StepAlwaysAnswersNext := by
  intro s
  rcases step_cases s with ⟨-, -, h⟩ | ⟨-, -, -, h⟩ | ⟨-, -, -, h⟩ | ⟨-, -, -, h⟩ | ⟨-, -, -, h⟩
  · rw [h]
    exact useqStep_answers _
  all_goals exact ⟨_, h⟩

/-! ### NVMST that keeps its byte (O22) -/

/-- Settles O22: with IE = 0 and a store within its endurance the byte left is MODE, and no draw is used. -/
theorem nvmstStoresMode : Obligations.NvmstStoresMode := by
  refine ⟨hasWord_of_encode rfl rfl, fun s hie hwrites => ?_⟩
  have hworn : s.nvmWorn = false := State.nvmWorn_of_le hwrites
  have hstep := exec_nvmst s
  rw [State.nvmStoredByte_of_off hie hworn, if_neg (by simp [hie, hworn])] at hstep
  exact ⟨_, hstep, rfl, sameRom_of_eq rfl rfl⟩

end Sys2Proof.Machine
end

section
/-! The statements about exceptions (spec 60): an arrival only sets its latch (rules R281, R282), the tick is serviced before
the pin change (rules R284 to R287), and a locked block stays as it is until a reset (rules R47, R289). -/

namespace Sys2Proof.Machine

/-! ### Arrivals (O44) -/

/-- On the turn of a TICK, the step is that arrival (rule R19). -/
theorem step_of_tick {s : State} {ts : List Turn} (h : s.env.turns = .tick :: ts) :
    step s = .next (s.withTurns ts).arriveTick := by
  rw [step, h]

/-- On the turn of a PCHG, the step is that arrival (rule R19). -/
theorem step_of_pchg {s : State} {ts : List Turn} (h : s.env.turns = .pchg :: ts) :
    step s = .next (s.withTurns ts).arrivePchg := by
  rw [step, h]

/-- Settles O44: each arrival writes 1 to its latch, so the second one writes what is there. -/
theorem arrivalsSetLatchesAndCoalesce : Obligations.ArrivalsSetLatchesAndCoalesce :=
  fun _ _ => ⟨step_of_tick, step_of_pchg, rfl, rfl⟩

/-! ### Both latches set (O45) -/

/-- The two services write different latches and flags, so their order changes no state (rule R287). -/
theorem State.servicePchg_serviceTick (s : State) : s.serviceTick.servicePchg = s.servicePchg.serviceTick := rfl

/-- With no turn listed it is USEQ's turn (rule R19, log 6). -/
theorem State.useqTurn_of_nil {s : State} (h : s.env.turns = []) : s.useqTurn = true := by
  rw [State.useqTurn, h]

/-- With no turn listed a set TPEND is serviced next, whatever PPEND is (rule R287). -/
theorem step_of_tpend {s : State} (hturns : s.env.turns = []) (hlocked : s.locked = false) (hie : s.ie = true)
    (htick : s.tpend = true) : step s = .next s.serviceTick := by
  obtain ⟨-, htickStep, -, -⟩ := stepDoesNotExecuteWhenLockedServicingOrAsleep s (State.useqTurn_of_nil hturns)
  obtain ⟨-, hstep⟩ := htickStep hlocked hie htick
  rw [State.turnTaken_of_nil hturns] at hstep
  exact hstep

/-- With no turn listed a set PPEND is serviced next when TPEND is clear (rule R287). -/
theorem step_of_ppend {s : State} (hturns : s.env.turns = []) (hlocked : s.locked = false) (hie : s.ie = true)
    (htick : s.tpend = false) (hpchg : s.ppend = true) : step s = .next s.servicePchg := by
  obtain ⟨-, -, hpchgStep, -⟩ := stepDoesNotExecuteWhenLockedServicingOrAsleep s (State.useqTurn_of_nil hturns)
  obtain ⟨-, hstep⟩ := hpchgStep hlocked hie htick hpchg
  rw [State.turnTaken_of_nil hturns] at hstep
  exact hstep

/-- Settles O45: the tick service leaves IE and PPEND set and TPEND clear, so the pin-change service comes next. -/
theorem tickServicedBeforePinChange : Obligations.TickServicedBeforePinChange := by
  refine ⟨fun s hturns hlocked hie htick hpchg => ?_, State.servicePchg_serviceTick⟩
  have hsecond : step s.serviceTick = .next s.serviceTick.servicePchg := step_of_ppend hturns hlocked hie rfl hpchg
  exact ⟨_, step_of_tpend hturns hlocked hie htick, rfl, hsecond⟩

/-! ### Locked (O43) -/

/-- Settles O43: a locked USEQ steps idly, an arrival sets its latch, and a reset clears LOCKED. -/
theorem lockedUntilReset : Obligations.LockedUntilReset := by
  intro s t hlocked hstep
  rcases step_cases s with ⟨hturn, hr, -⟩ | ⟨-, hr, -, h⟩ | ⟨-, hr, -, h⟩ | ⟨-, hr, -, h⟩ | ⟨-, hr, -, h⟩
  · obtain ⟨-, hidle⟩ := step_of_idle hturn (.inl (s.useqAction_locked_iff.2 hlocked))
    cases hidle.symm.trans hstep
    exact ⟨fun _ => ⟨rfl, id, id⟩, fun hreset => absurd (hr.symm.trans hreset) Bool.false_ne_true⟩
  · cases h.symm.trans hstep
    exact ⟨fun _ => ⟨rfl, fun _ => rfl, id⟩, fun hreset => absurd (hr.symm.trans hreset) Bool.false_ne_true⟩
  · cases h.symm.trans hstep
    exact ⟨fun _ => ⟨rfl, id, fun _ => rfl⟩, fun hreset => absurd (hr.symm.trans hreset) Bool.false_ne_true⟩
  · cases h.symm.trans hstep
    exact ⟨fun hno => absurd (hno.symm.trans hr) Bool.false_ne_true, fun _ => rfl⟩
  · cases h.symm.trans hstep
    refine ⟨fun hno => absurd (hno.symm.trans hr) Bool.false_ne_true, fun _ => ?_⟩
    rw [State.powerLoss_eq, State.powerOnReset_locked]

end Sys2Proof.Machine
end

section
/-! The statements about reset (spec 70): power-on reset sets every register (rules R320, R321), the state right after reset has
the reset values and both invariants, and boot reaches the loop head (rules R250, R251, R323). Boot is four steps of USEQ, each
the instruction that the ROM holds at its address (`step_of_inBoot`). -/

namespace Sys2Proof.Machine

/-! ### Power-on reset and the state after it (O47, O48, O52) -/

/-- On the turn of a power-on reset, the step is that reset (rule R19). -/
theorem step_of_powerOnReset {s : State} {ts : List Turn} (h : s.env.turns = .powerOnReset :: ts) :
    step s = .next (s.withTurns ts).powerOnReset := by
  rw [step, h]

/-- Settles O47: a reset sets what rule R321 says over what it keeps. -/
theorem powerOnResetSetsEveryRegister : Obligations.PowerOnResetSetsEveryRegister := fun _ _ hturns =>
  ⟨_, step_of_powerOnReset hturns, State.powerOnReset_hasResetValues _, rfl, rfl, rfl, rfl, rfl, sameRom_of_eq rfl rfl⟩

/-- Settles O48: the state after reset is the first power-on of the built configuration. -/
theorem resetStateHasResetValues : Obligations.ResetStateHasResetValues :=
  ⟨State.firstPowerOn_hasResetValues _, rfl, rfl, rfl, rfl, rfl⟩

/-- Settles O52: the first power-on is a power-on reset of a block with the hardware's ROM, which gives both invariants. -/
theorem resetHasInvariants : Obligations.ResetHasInvariants := by
  have hreset : State.reset = (State.powerOn .built [] .quiet erased 0 []).powerOnReset :=
    State.firstPowerOn_eq_powerOnReset _
  constructor
  · exact hreset ▸ State.powerOnReset_inv (Memory.nil_wf _)
  · exact hreset ▸ State.powerOnReset_fixedRomInv rfl

/-! ### The reset values, read back -/

/-- The pins are at their idle levels when the packed view is 0x4 (rule R48). -/
theorem State.pins_of_pinsWord {s : State} (h : s.pinsWord = 0x4) : s.pins = .idle := by
  have bits : ∀ act ind oe o : Bool,
      BitVec.ofBool o ++ BitVec.ofBool oe ++ BitVec.ofBool ind ++ BitVec.ofBool act = (0x4 : BitVec 4) →
        (⟨act, ind, oe, o⟩ : Pins) = .idle := by decide
  exact bits _ _ _ _ h

/-- A block with the hardware's ROM and the reset values has the control invariant (rules R256, R321). -/
theorem State.HasResetValues.fixedRomInv {s : State} (h : s.HasResetValues) (hrom : s.rom = []) : s.FixedRomInv where
  romFixed := hrom
  pcUsed := by rw [h.pc]; decide
  ieByAddress := by rw [h.ie, h.pc]; rfl
  notLocked := h.locked
  asleepAfterSleep hs := by rw [h.sleeping] at hs; cases hs

/-! ### The boot routine, one step at a time (rules R250, R251) -/

/-- The block stands at address `a` of the hardware's ROM, with no turn listed and the pins idle. -/
structure State.InBoot (a : RomAddr) (s : State) : Prop where
  inv : s.FixedRomInv
  noTurn : s.env.turns = []
  pinsIdle : s.pins = .idle
  pc : s.pc = a

/-- A step that lists no turn and leaves the pins idle leads to the address that it goes to. -/
theorem State.InBoot.next {a : RomAddr} {s t : State} (h : s.InBoot a) (hstep : step s = .next t)
    (hturns : t.env.turns = s.env.turns) (hpins : t.pins = s.pins) : t.InBoot t.pc where
  inv := h.inv.step hstep
  noTurn := hturns.trans h.noTurn
  pinsIdle := hpins.trans h.pinsIdle
  pc := rfl

/-- In the boot routine no latch is serviced and the block is awake, so USEQ executes the word of the ROM (rules R226, R251). -/
theorem step_of_inBoot {a : RomAddr} {s : State} {i : Instr} (h : s.InBoot a) (ha : a.toNat ≤ 0x03)
    (hword : decode (romWord s.cfg a.toNat) = .ok i) : step s = exec i s := by
  have hie : s.ie = false := by
    rw [h.inv.ieByAddress, h.pc]
    simp [interruptsOnAt, ha]
  have hawake : s.sleeping = false := by
    refine Bool.eq_false_iff.2 fun hs => ?_
    rw [← h.pc, h.inv.asleepAfterSleep hs] at ha
    exact absurd ha (by decide)
  have hfetch : decode (s.romFetch s.pc) = .ok i := by
    rw [State.romFetch, h.inv.romFixed, Memory.read_nil, h.pc]
    exact hword
  obtain ⟨-, hstep, -⟩ := stepRunsDecodedInstruction s i (State.useqTurn_of_nil h.noTurn) h.inv.notLocked
    (by rw [hie, Bool.false_and]) hawake hfetch
  rw [hstep, State.turnTaken_of_nil h.noTurn]

/-- The first boot step is NVMLD. -/
theorem step_boot_nvmld {s : State} (h : s.InBoot 0x00) :
    step s = .next { s with mode := modeOfByte s.cfg s.nvmReadByte, env := s.envAfterNvmRead, pc := 0x01 } := by
  rw [step_of_inBoot h (by decide) (decodeEncodeAgree .nvmld rfl), exec_nvmld, h.pc]
  rfl

/-- The second boot step is CAL; the pins stay as they are, because they are idle. -/
theorem step_boot_cal {s : State} (h : s.InBoot 0x01) :
    step s = .next { s with
      thr := BitVec.ofNat 32 (satAdd (s.measure senseMax) s.cfg.calMargin senseMax)
      env := s.env.dischargeUsed
      pc := 0x02 } := by
  have hpins : ({ s.pins with senseOe := true, senseO := false } : Pins) = s.pins := by
    rw [h.pinsIdle]
    rfl
  rw [step_of_inBoot h (by decide) (decodeEncodeAgree .cal rfl), exec_cal, h.pc, hpins]
  rfl

/-- The events of the boot blink: one of the configured count, none when the count is 0 (rule R156). -/
def bootEvents (c : Config) : List Event := if c.nBoot = 0 then [] else [.blink .boot c.nBoot.toNat]

/-- The third boot step is the BLINK of N_BOOT; the pins stay as they are, because they are idle. -/
theorem step_boot_blink {s : State} (h : s.InBoot 0x02) :
    step s = .next { s with trace := s.trace ++ bootEvents s.cfg, pc := 0x03 } := by
  have hpins : ({ s.pins with ind := false } : Pins) = s.pins := by
    rw [h.pinsIdle]
    rfl
  have hword : decode (romWord s.cfg 0x02) = .ok (.blink .boot false s.cfg.nBoot) := by
    rw [← decodeEncodeAgree (.blink .boot false s.cfg.nBoot) rfl, encode_blink_immediate]
    rfl
  have hcount : s.blinkCount false s.cfg.nBoot = 0 ↔ s.cfg.nBoot = 0 := BitVec.toNat_inj (y := 0)
  rw [step_of_inBoot h (by decide) hword, exec_blink rfl, h.pc, hpins, bootEvents]
  simp only [hcount]
  split
  · rw [List.append_nil]
    rfl
  · rfl

/-- The fourth boot step is EI. -/
theorem step_boot_ei {s : State} (h : s.InBoot 0x03) : step s = .next { s with ie := true, pc := 0x04 } := by
  rw [step_of_inBoot h (by decide) (decodeEncodeAgree .ei rfl), exec_ei, h.pc]
  rfl

/-! ### Boot (O50) -/

/-- The four boot steps, one after the other. -/
theorem run_boot {s : State} (h : s.InBoot 0x00) :
    Host.Core.run Sys2Proof.core 4 s = .next { s with
      mode := modeOfByte s.cfg s.nvmReadByte
      thr := BitVec.ofNat 32
        (satAdd (({ s with env := s.envAfterNvmRead } : State).measure senseMax) s.cfg.calMargin senseMax)
      ie := true
      trace := s.trace ++ bootEvents s.cfg
      pc := 0x04
      env := s.envAfterNvmRead.dischargeUsed } := by
  have hload := step_boot_nvmld h
  have hatCal := h.next hload s.envAfterNvmRead_turns rfl
  have hcal := step_boot_cal hatCal
  have hatBlink := hatCal.next hcal rfl rfl
  have hblink := step_boot_blink hatBlink
  have hatEi := hatBlink.next hblink rfl rfl
  rw [run_succ hload, run_succ hcal, run_succ hblink, run_succ (step_boot_ei hatEi)]
  rfl

/-- Settles O50: the reset values stand at the first word of the boot routine; MODE is what NVMLD takes from the byte given, and
THR the sum that CAL forms. -/
theorem bootReachesLoopHead : Obligations.BootReachesLoopHead := by
  intro s b T hreset hrom hturns hstored hdrawn hT
  have hboot : s.InBoot 0x00 :=
    ⟨hreset.fixedRomInv hrom, hturns, State.pins_of_pinsWord hreset.pins, hreset.pc⟩
  obtain ⟨-, hnvmld⟩ := nvmldLoadsMode
  obtain ⟨t, hload, -, houtside, hinside, -⟩ := hnvmld s b hstored hdrawn
  cases (exec_nvmld s).symm.trans hload
  refine ⟨_, run_boot hboot, modeOfByte_inRange s.cfg s.nvmReadByte, hinside, houtside, ?_, rfl⟩
  rw [toNat_ofNat_satAdd_senseMax, State.measure_of_draw hT, senseMax]

end Sys2Proof.Machine
end
